-- ==== Sys2Proof/Word.lean ====
section
/-! DEFINITION. The words of the KL-416: bytes, host addresses, byte maps, and times. -/
namespace Sys2Proof

/-- A byte of data, of a register or of a serial link. -/
abbrev Byte := BitVec 8

/-- A host address on A19–A0 (00, Conventions). -/
abbrev HostAddress := BitVec 20

/-- A byte map: the set of byte offsets 0–63 of a page, offset `i` in bit `i` (00, Conventions, "Maps"). -/
abbrev OffsetMap := BitVec 64

/-- The 64 bytes of one page (00, Conventions). -/
abbrev PageBytes := Vector Byte 64

/-- A time or a duration in wait units of 62.5 ns, one oscillator period (00, Conventions, "Time"). -/
abbrev Time := Nat

end Sys2Proof
end

