-- ==== Sys2Proof/Syntax.lean ====
section
/-! DEFINITION. The commands of the KL-416: one constructor of `Instr` per row of spec/opcode_table.json, in the
table's order, with the operands that the row's rule names. -/
namespace Sys2Proof

/-- The host cycle style chosen by the STYLE strap (section 1.1): 0 strobe-pair, 1 enable. -/
inductive CycleStyle where
  | strobePair
  | enable
  deriving DecidableEq, Repr

/-- An edge of a host strobe that can start an access (section 1.1): RDS# or WRS# falling in strobe-pair style, EN
rising with the level of RW (high for a read) in enable style. -/
inductive ActiveEdge where
  | rdsFall
  | wrsFall
  | enRise (rwHigh : Bool)
  deriving DecidableEq, Repr

/-- An edge that can end an access (R13): the trailing edges of section 1.1, and CE# rising. -/
inductive EndEdge where
  | rdsRise
  | wrsRise
  | enFall
  | ceRise
  deriving DecidableEq, Repr

/-- The commands. Rows without operands act on what the state holds (the operation on the link, the entry shadow). -/
inductive Instr where
  /-- HOST_ACCESS_START (R4): an active edge, the level of CE# and the levels of A19–A0 and D7–D0 at it. -/
  | hostAccessStart (edge : ActiveEdge) (ceLow : Bool) (address : HostAddress) (data : Byte)
  /-- HOST_ACCESS_END (R13). -/
  | hostAccessEnd (edge : EndEdge)
  /-- WAIT_DEADLINE (R5). -/
  | waitDeadline
  /-- HOLD_DEADLINE (R12). -/
  | holdDeadline
  /-- ARBITER_START (R124). -/
  | arbiterStart
  /-- PAGE_FETCH_COMPLETE (R41): the 64 bytes the device returned. -/
  | pageFetchComplete (data : PageBytes)
  /-- TRANSFER_ERROR (R118): the index, from 0 (the select byte), of the sent byte left unacknowledged. -/
  | transferError (byteIndex : Nat)
  /-- COMMIT_START (R86) of a buffer. -/
  | commitStart (b : Fin 16)
  /-- ABSENT_HANDOVER (R87) of a buffer. -/
  | absentHandover (b : Fin 16)
  /-- PROGRAM_COMPLETE (R93). -/
  | programComplete
  /-- POLL_DUE (R120) of a device. -/
  | pollDue (d : Fin 4)
  /-- POLL_ACKNOWLEDGE (R120, R122). -/
  | pollAcknowledge
  /-- POLL_REFUSE (R120, R122). -/
  | pollRefuse
  /-- PROGRAM_TIMEOUT (R121) of a device. -/
  | programTimeout (d : Fin 4)
  /-- CHECK_READ_COMPLETE (R97): the bytes read, of which the first `length` of the read count. -/
  | checkReadComplete (data : PageBytes)
  /-- AGE_DEADLINE (R68) of a buffer. -/
  | ageDeadline (b : Fin 16)
  /-- FLUSHREQ_FALL (R80). -/
  | flushreqFall
  /-- STREAM_READ_COMPLETE (R140): the bytes read, of which the first `length` of the burst count. -/
  | streamReadComplete (data : Vector Byte 16)
  /-- PROBE_SELECT_DUE (R129) of a device. -/
  | probeSelectDue (d : Fin 4)
  /-- PROBE_SELECT_ACKNOWLEDGE (R129). -/
  | probeSelectAcknowledge
  /-- PROBE_SELECT_REFUSE (R129). -/
  | probeSelectRefuse
  /-- PROBE_DEADLINE (R129) of a device. -/
  | probeDeadline (d : Fin 4)
  /-- DESCRIPTOR_READ_COMPLETE (R185): the 64 bytes of the descriptor page. -/
  | descriptorReadComplete (data : PageBytes)
  /-- SUPPLY_BELOW_WARNING (R158). -/
  | supplyBelowWarning
  /-- SUPPLY_ABOVE_WARNING (R158). -/
  | supplyAboveWarning
  /-- SAG_TIMER_EXPIRY (R158). -/
  | sagTimerExpiry
  /-- SUPPLY_ABOVE_RECOVERY (R158). -/
  | supplyAboveRecovery
  /-- SUPPLY_BELOW_RECOVERY (R158). -/
  | supplyBelowRecovery
  /-- RECOVERY_TIMER_EXPIRY (R158). -/
  | recoveryTimerExpiry
  /-- POWER_ON_RESET (R167). -/
  | powerOnReset
  /-- RST_ASSERT (R16). -/
  | rstAssert
  /-- RESET_END (R183): the straps as sampled, and whether the supply then lies below the warning level (R168). -/
  | resetEnd (style : CycleStyle) (msa : Bool) (belowWarning : Bool)
  /-- MANAGEMENT_ADDRESS_BYTE (R169): a start or repeated start, and the address byte after it. -/
  | managementAddressByte (byte : Byte)
  /-- POINTER_BYTE (R170). -/
  | pointerByte (byte : Byte)
  /-- DATA_BYTE (R170). -/
  | dataByte (byte : Byte)
  /-- MANAGEMENT_TRANSACTION_END (R171). -/
  | managementTransactionEnd
  /-- REGION_APPLY (R25). -/
  | regionApply
  /-- WATCH_APPLY (R146). -/
  | watchApply
  /-- SETTINGS_APPLY (R30). -/
  | settingsApply
  /-- EVENT_FLAG_CLEAR (R179). -/
  | eventFlagClear
  /-- FAULT_RECORD_EMPTY (R11). -/
  | faultRecordEmpty
  /-- READ_ONLY_APPLY (R172). -/
  | readOnlyApply
  /-- COMMAND_ARGUMENT_STORE (R176). -/
  | commandArgumentStore
  /-- FLUSH (R82). -/
  | flush
  /-- BARRIER (R66). -/
  | barrier
  /-- RETRY (R105). -/
  | retry
  /-- DISCARD (R106). -/
  | discard
  /-- DROP_CLEAN (R57). -/
  | dropClean
  /-- REPROBE (R130). -/
  | reprobe
  /-- UNKNOWN_COMMAND (R177). -/
  | unknownCommand
  /-- FLUSHREQ_RISE (R80). -/
  | flushreqRise
  /-- MANAGEMENT_READ_BYTE (R174): whether the partner acknowledges the byte sent. -/
  | managementReadByte (acknowledged : Bool)
  deriving DecidableEq, Repr

end Sys2Proof
end

