-- ==== Sys2Proof/Config.lean ====
section
/-! DEFINITION. What the KL-416 fixes: its durations in wait units, its sizes, its codes. The block leaves no value
of a command's result open, so there is no free value here. -/
namespace Sys2Proof.Config

/-- Wait units in one microsecond: 1 µs / 62.5 ns (00, "Time"). -/
def microsecond : Time := 16

/-- Wait units in one millisecond. -/
def millisecond : Time := 16000

/-- One period of PLC: the oscillator divided by 16 (R109). -/
def plcPeriod : Time := 16

/-- Clock periods of a byte and its acknowledge on the page link (R109). -/
def periodsPerByte : Nat := 9

/-- Time from the end of a program transfer, or of a refused poll of a PROGRAMMING device, to the next poll (R120). -/
def pollInterval : Time := 250 * microsecond

/-- Poll interval of a STUCK device (R118, R121, R122). -/
def stuckPollInterval : Time := 10 * millisecond

/-- Time from a refused probe select to the next one (R129). -/
def probeSelectInterval : Time := 250 * microsecond

/-- Probe bound of the start-up probes (R184). -/
def startupProbeBound : Time := 10 * millisecond

/-- Length of the sag and the recovery filters (section 9.1, R158). -/
def filterTime : Time := millisecond

/-- Transfer attempts of one operation (R118). -/
def transferAttempts : Nat := 3

/-- Counted failures that make a buffer FAILED (R103). -/
def programAttempts : Nat := 3

/-- Capacity of the stream queue (R134). -/
def streamQueueBytes : Nat := 16

/-- Host pages of the host space (00, "Addresses"). -/
def hostPages : Nat := 16384

/-- Bytes of a page. -/
def pageBytes : Nat := 64

/-- Device address of the boot descriptor on device 0 (R185). -/
def descriptorAddress : Nat := 0x1FFC0

/-- Bound on the consequences that one command can set off within its step (log entry 4). -/
def settleBound : Nat := 128

end Sys2Proof.Config
end

