-- ==== Sys2Proof/Machine/State.lean ====
section
/-! DEFINITION. The state of the KL-416, block by block (00_scope.md, "Functional overview"), the ways a step can stop,
and the state right after reset. -/
namespace Sys2Proof.Machine

/-! ### Names -/

/-- Part state (11, 01 section 1.7). -/
inductive PartState where
  | starting | running | holdup
  deriving DecidableEq, Repr

/-- Direction of a host access (01 section 1.2). -/
inductive Direction where
  | read | write
  deriving DecidableEq, Repr

/-- Causes of a refusal (01 section 1.3). -/
inductive Cause where
  | unmapped | readOnly | holdLimit | device | bufferFailed | noBuffer | holdup | fetchFailed
  deriving DecidableEq, Repr

/-- Policies of a region (02 section 2.1). -/
inductive Policy where
  | writeBack | writeThrough | readOnly | stream
  deriving DecidableEq, Repr

/-- Capacities of a device (02, "Changing a device capacity"). -/
inductive Capacity where
  | pages512 | pages1024 | pages2048
  deriving DecidableEq, Repr

/-- The sixteen event flags (10 section 10.6). -/
inductive EventFlag where
  | commitFail | deviceFault | accessFault | flushDone | holdup | holdupShort | descriptor | pressure
  | watch (n : Fin 8)
  deriving DecidableEq, Repr

/-- Buffer states (R34). -/
inductive BufferState where
  | free | clean | dirty | committing | failed
  deriving DecidableEq, Repr

/-- Stages of a commit (05 section 5.1). -/
inductive Stage where
  | fill | send | busy | check
  deriving DecidableEq, Repr

/-- Device states (06 section 6.3). -/
inductive DeviceState where
  | absent | ready | programming | stuck
  deriving DecidableEq, Repr

/-- Supply states (R158). -/
inductive SupplyState where
  | normal | sagPending | low | recoverPending
  deriving DecidableEq, Repr

/-- Polarities of a watch (08 section 8.1). -/
inductive Polarity where
  | leave | enter
  deriving DecidableEq, Repr

/-- Phases of start-up (11 section 11.1). -/
inductive Phase where
  | probe | read | install | done
  deriving DecidableEq, Repr

/-- What the descriptor checks decided (11 section 11.1). -/
inductive StartupOutcome where
  | good | defaults | defaultsFlagged
  deriving DecidableEq, Repr

/-- Command status (10, 12 section 12.5). -/
inductive CommandStatus where
  | none | done | refused | unknown
  deriving DecidableEq, Repr

/-- Apply status (R172, 12 section 12.5). -/
inductive ApplyStatus where
  | none | accepted | value | range | overlap | busyRegion | readOnly
  deriving DecidableEq, Repr

/-! ### Host Bus Port (01) -/

/-- The decode of an access (R18): with the policy and the wait it was given, which it keeps (R4, R20). -/
structure Decode where
  region : Fin 8
  device : Fin 4
  address : Nat
  policy : Policy
  wait : Nat
  deriving DecidableEq, Repr

/-- How an access ended (01 section 1.2). -/
inductive AccessOutcome where
  | completed
  | refused (cause : Cause)
  deriving DecidableEq, Repr

/-- What a PENDING access waits on. -/
inductive Wait where
  /-- Its hand-off, while the part is STARTING (R14). -/
  | handOff
  /-- The page fetch of a buffer (R45, R46). -/
  | fetch (b : Fin 16)
  /-- A buffer (R52). -/
  | buffer
  /-- The removal of its buffer's entry, as a cross-generation write (R76). -/
  | crossGeneration (b : Fin 16)
  /-- The removal of its own entry, as an applied write-through write (R79). -/
  | entry (b : Fin 16)
  /-- The head byte of the stream queue, as a demand read (R138). -/
  | streamByte
  deriving DecidableEq, Repr

/-- PENDING with what it waits on, or DONE with its outcome. IDLE is the absence of an access. -/
inductive AccessStatus where
  | pending (on : Wait)
  | done (outcome : AccessOutcome)
  deriving DecidableEq, Repr

/-- The access record (01 section 1.2). `edgeTime` is the active edge, from which the wait deadline is measured. -/
structure Access where
  direction : Direction
  address : HostAddress
  writeByte : Option Byte
  decode : Option Decode
  edgeTime : Time
  waitDeadline : Time
  holdDeadline : Option Time
  status : AccessStatus
  deriving DecidableEq, Repr

/-- The fault record (01 section 1.4). -/
structure FaultRecord where
  full : Bool
  address : HostAddress
  direction : Direction
  cause : Option Cause
  overflow : Bool
  deriving DecidableEq, Repr

/-- The Host Bus Port: the access in progress, the write latch and the read byte register (R3), the fault record. -/
structure Port where
  access : Option Access
  writeLatch : Byte
  readByte : Byte
  fault : FaultRecord
  deriving DecidableEq, Repr

/-! ### Region Decoder (02), settings (10 section 10.1) -/

/-- A region entry (02 section 2.1). -/
structure Region where
  enabled : Bool
  hostBase : Nat
  pageCount : Nat
  device : Fin 4
  deviceBase : Nat
  policy : Policy
  wait : Nat
  ageCode : Nat
  verify : Bool
  deriving DecidableEq, Repr

/-- The settings of entry 17 but for the capacity codes, whose home is the device records. -/
structure Settings where
  fillByte : Byte
  lowWater : Nat
  holdLimit : Nat
  budget : Nat
  programTimeout : Nat
  eventEnable : BitVec 16
  deriving DecidableEq, Repr

/-! ### Page Buffer Pool (03), Commit Scheduler (04), Commit Engine (05) -/

/-- A buffer's tag (03 section 3.1). -/
structure Tag where
  device : Fin 4
  page : Nat
  deriving DecidableEq, Repr

/-- The current SEND of a committing buffer: its span, and the verify read at its start (R24, R91, R97). -/
structure SendRecord where
  first : Nat
  length : Nat
  verify : Bool
  deriving DecidableEq, Repr

/-- A buffer record (03 section 3.1). -/
structure PageBuffer where
  state : BufferState
  tag : Option Tag
  data : PageBytes
  valid : OffsetMap
  dirty : OffsetMap
  inFlight : OffsetMap
  fill : Bool
  commitRegion : Option (Fin 8)
  ageDeadline : Option Time
  stage : Option Stage
  sent : Option SendRecord
  attempts : Nat
  deriving DecidableEq, Repr

/-- An entry of the commit queue (04 section 4.1): a buffer entry with its own causes, or a barrier marker. -/
inductive QueueEntry where
  | buffer (b : Fin 16) (aged push : Bool)
  | marker (flushMark : Bool)
  deriving DecidableEq, Repr

/-! ### Page Link Controller (06) -/

/-- A probe in progress (R129). -/
structure Probe where
  deadline : Time
  selectDue : Time
  deriving DecidableEq, Repr

/-- A device record (06 section 6.3); an address counter that is absent is UNKNOWN. -/
structure Device where
  state : DeviceState
  capacity : Capacity
  counter : Option Nat
  pollDue : Option Time
  timeout : Option Time
  probe : Option Probe
  deriving DecidableEq, Repr

/-- The kinds of operation (06 section 6.4). A page fetch, program or CHECK read names the buffer it serves. -/
inductive OperationKind where
  | pageFetch (b : Fin 16)
  | streamRead
  | program (b : Fin 16)
  | checkRead (b : Fin 16)
  | descriptorRead
  | poll
  | probeSelect
  deriving DecidableEq, Repr

/-- An operation (06 section 6.4). Its class and its requester follow from the state (R40, R124). -/
structure Operation where
  kind : OperationKind
  device : Fin 4
  start : Nat
  length : Nat
  deriving DecidableEq, Repr

/-- The forms of transfer (06 section 6.2). -/
inductive TransferForm where
  | program | addressedRead | currentRead | selectOnly
  deriving DecidableEq, Repr

/-- The operation on the link: the form of its current attempt, the attempts used (this one included), how many of them
failed at the select byte (R118), when this attempt started, whether its requester remains (R38, R117), and whether a
capacity change keeps the counter UNKNOWN after its end (R31). -/
structure LinkOperation where
  operation : Operation
  form : TransferForm
  attempts : Nat
  selectErrors : Nat
  attemptStart : Time
  hasRequester : Bool
  counterLost : Bool
  deriving DecidableEq, Repr

/-- The transmit store's copy of a span (05 section 5.3). -/
structure TransmitSpan where
  start : Nat
  bytes : List Byte
  deriving DecidableEq, Repr

/-! ### Sequential Read Window (07) -/

/-- The next fields and the range limit of the stream context (07 section 7.1). -/
structure StreamContext where
  hostAddress : Nat
  region : Fin 8
  device : Fin 4
  address : Nat
  limit : Nat
  deriving DecidableEq, Repr

/-- The refill in progress (07 section 7.1). -/
structure Burst where
  device : Fin 4
  start : Nat
  length : Nat
  spoiled : Bool
  deriving DecidableEq, Repr

/-- Causes of a stall (07 section 7.1). -/
inductive Stall where
  | fetchFailed | device
  deriving DecidableEq, Repr

/-- The stream: IDLE is the absence of a context, LOADING a context with an empty queue, READY one with bytes (R134). -/
structure Stream where
  context : Option StreamContext
  queue : List Byte
  burst : Option Burst
  stall : Option Stall
  lastByte : Byte
  deriving DecidableEq, Repr

/-! ### Write Watch Unit (08), Supply Monitor (09), Event Block and management link (10), Start-up Sequencer (11) -/

/-- A watch entry (08 section 8.1). -/
structure Watch where
  enabled : Bool
  address : HostAddress
  mask : Byte
  compare : Byte
  polarity : Polarity
  barrierBefore : Bool
  barrierAfter : Bool
  commit : Bool
  lastMatch : Bool
  deriving DecidableEq, Repr

/-- The Supply Monitor: supply state, filter timers (expiry time, absent when stopped), budget count (R158, R162). -/
structure Supply where
  state : SupplyState
  sagTimer : Option Time
  recoveryTimer : Option Time
  count : Nat
  deriving DecidableEq, Repr

/-- Transaction state (10 section 10.2), with whether the pointer byte has come (R170) and whether MLD was released
after a byte left unacknowledged (R174). -/
inductive Transaction where
  | idle
  | addressedWrite (pointerTaken : Bool)
  | addressedRead (released : Bool)
  | ignoring
  deriving DecidableEq, Repr

/-- The entry shadow (10 section 10.2). -/
structure Shadow where
  entry : Fin 32
  bytes : Vector Byte 8
  written : BitVec 8
  deriving DecidableEq, Repr

/-- The management link block (10): transaction, pointer, shadow, command entry; and, of the model's own, the last
acknowledge driven and the last byte sent on MLD. -/
structure Management where
  transaction : Transaction
  pointer : BitVec 8
  shadow : Option Shadow
  code : Byte
  argument : Byte
  commandStatus : CommandStatus
  applyStatus : ApplyStatus
  ackDriven : Bool
  sent : Option Byte
  deriving DecidableEq, Repr

/-- The straps as sampled when reset ended (R183). -/
structure Straps where
  style : CycleStyle
  msa : Bool
  deriving DecidableEq, Repr

/-- The Start-up Sequencer (11 section 11.1). -/
structure Startup where
  phase : Phase
  store : Option PageBytes
  outcome : Option StartupOutcome
  deriving DecidableEq, Repr

/-! ### The state -/

/-- The whole state. `now` is the clock in wait units, `pending` the commands not yet taken, first in first out,
`resetHeld` whether reset is held, `flushreqLow` the level of FLUSHREQ#. -/
structure State where
  now : Time
  pending : List Instr
  resetHeld : Bool
  flushreqLow : Bool
  straps : Straps
  part : PartState
  startup : Startup
  port : Port
  settings : Settings
  regions : Vector Region 8
  buffers : Vector PageBuffer 16
  recency : List (Fin 16)
  queue : List QueueEntry
  devices : Vector Device 4
  requests : List Operation
  link : Option LinkOperation
  transmit : Vector (Option TransmitSpan) 4
  stream : Stream
  watches : Vector Watch 8
  supply : Supply
  flags : BitVec 16
  management : Management
  deriving DecidableEq, Repr

/-- The ways a step can end in a fault: none. The spec gives the block no stop; an access, an apply or a command that
cannot be served is refused by an effect on the state, which is a next state. Nobody raises a fault; safe. -/
inductive Fault where
  deriving DecidableEq, Repr

/-- The ways a step can be refused. -/
inductive Refusal where
  /-- Raised by `exec` alone, for a command that has no meaning yet; safe. No command of the model is in that case. -/
  | notModelled (mnemonic : String)
  deriving DecidableEq, Repr

/-- What a meaning answers. -/
abbrev Result := Host.Outcome State Fault Refusal

/-! ### Reset values -/

/-- The empty fault record (01 section 1.4). -/
def FaultRecord.empty : FaultRecord :=
  { full := false, address := 0, direction := .read, cause := none, overflow := false }

/-- The cleared values of a region entry (R32). -/
def Region.cleared : Region :=
  { enabled := false, hostBase := 0, pageCount := 1, device := 0, deviceBase := 0, policy := .writeBack,
    wait := 0, ageCode := 0, verify := false }

/-- The default settings (10 section 10.1). -/
def Settings.defaults : Settings :=
  { fillByte := 0xFF, lowWater := 2, holdLimit := 100, budget := 4, programTimeout := 10, eventEnable := 0xFFFF }

/-- A FREE buffer (R34, R60). Its data bytes have no meaning and are never read (log entry 9). -/
def PageBuffer.freed : PageBuffer :=
  { state := .free, tag := none, data := Vector.replicate 64 0, valid := 0, dirty := 0, inFlight := 0, fill := false,
    commitRegion := none, ageDeadline := none, stage := none, sent := none, attempts := 0 }

/-- A device record when reset ends (R133), before its probe starts. -/
def Device.afterReset : Device :=
  { state := .absent, capacity := .pages2048, counter := none, pollDue := none, timeout := none, probe := none }

/-- A watch entry after reset (R147). -/
def Watch.afterReset : Watch :=
  { enabled := false, address := 0, mask := 0, compare := 0, polarity := .leave, barrierBefore := false,
    barrierAfter := false, commit := false, lastMatch := true }

/-- The stream after reset (R145). -/
def Stream.afterReset : Stream :=
  { context := none, queue := [], burst := none, stall := none, lastByte := 0xFF }

/-- The management link block after reset (R175); the last two fields are the model's own (log entry 8). -/
def Management.afterReset : Management :=
  { transaction := .idle, pointer := 0, shadow := none, code := 0, argument := 0, commandStatus := .none,
    applyStatus := .none, ackDriven := false, sent := none }

/-- The part while reset is held, at clock time 0: every block at its reset values (R183), reset still held. -/
def State.held : State :=
  { now := 0, pending := [], resetHeld := true, flushreqLow := false,
    straps := { style := .strobePair, msa := false }, part := .starting,
    startup := { phase := .probe, store := none, outcome := none },
    port := { access := none, writeLatch := 0, readByte := 0, fault := FaultRecord.empty },
    settings := Settings.defaults,
    regions := Vector.replicate 8 Region.cleared,
    buffers := Vector.replicate 16 PageBuffer.freed,
    recency := [], queue := [],
    devices := Vector.replicate 4 Device.afterReset,
    requests := [], link := none, transmit := Vector.replicate 4 none,
    stream := Stream.afterReset,
    watches := Vector.replicate 8 Watch.afterReset,
    supply := { state := .normal, sagTimer := none, recoveryTimer := none, count := 4 },
    flags := 0,
    management := Management.afterReset }

/-- The machine right after reset (R183, R184): reset has ended at clock time 0 with both straps 0, the supply not below
the warning level and FLUSHREQ# high (log entry 2); the part is STARTING, and the four start-up probes have started. -/
def State.reset : State :=
  { State.held with
    resetHeld := false
    devices := Vector.replicate 4
      { Device.afterReset with probe := some { deadline := Config.startupProbeBound, selectDue := 0 } } }

end Sys2Proof.Machine
end

