-- ==== Sys2Proof/Machine/Flags.lean ====
section
/-! DEFINITION. The event flags (10 section 10.6) and the output lines, as functions of the state. -/
namespace Sys2Proof.Machine

/-- The place of a flag in entry 18: offset 0 in bits 7–0, offset 1 in bits 15–8 (12 section 12.4). -/
def EventFlag.bit : EventFlag → Nat
  | .commitFail => 0
  | .deviceFault => 1
  | .accessFault => 2
  | .flushDone => 3
  | .holdup => 4
  | .holdupShort => 5
  | .descriptor => 6
  | .pressure => 7
  | .watch n => 8 + n.val

/-- The flag word with that flag alone set. -/
def EventFlag.mask (f : EventFlag) : BitVec 16 := 1#16 <<< f.bit

/-- Raising a flag sets it; a set flag stays set (R178). -/
def State.raise (s : State) (f : EventFlag) : State := { s with flags := s.flags ||| f.mask }

/-- Whether a flag is set. -/
def State.flagSet (s : State) (f : EventFlag) : Bool := s.flags.getLsbD f.bit

/-- Clearing the flags written as 1 (R179). -/
def State.clearFlags (s : State) (ones : BitVec 16) : State := { s with flags := s.flags &&& ~~~ones }

/-! ### Output lines -/

/-- HWAIT# is low while the Port is PENDING, and while it is DONE and the wait deadline has not yet passed (R5). -/
def State.hwaitLow (s : State) : Bool :=
  match s.port.access with
  | none => false
  | some a =>
    match a.status with
    | .pending _ => true
    | .done _ => decide (s.now < a.waitDeadline)

/-- D7–D0 carry the read byte register during a read access and are not driven otherwise (R1, R2, R3). -/
def State.dataLines (s : State) : Option Byte :=
  match s.port.access with
  | some a => if a.direction = .read then some s.port.readByte else none
  | none => none

/-- The DIRTY line is high while the queue holds a buffer entry (R83). -/
def State.dirtyLine (s : State) : Bool :=
  s.queue.any fun e => match e with
    | .buffer .. => true
    | .marker _ => false

/-- EVT# is low exactly when some set flag has its enable bit set (R181). -/
def State.evtLow (s : State) : Bool := decide (s.flags &&& s.settings.eventEnable ≠ 0)

end Sys2Proof.Machine
end

