-- ==== Sys2Proof/Machine/Operands.lean ====
section
/-! DEFINITION. The byte layouts of 12 section 12.4 and the codes of section 12.5: what a written entry shadow or a
boot descriptor says, and what a read of the management space returns. -/
namespace Sys2Proof.Machine

/-- Bits `hi`–`lo` of a byte, as a number. -/
def bits (b : Byte) (hi lo : Nat) : Nat := (b.extractLsb hi lo).toNat

/-- A number as a byte (its low eight bits). -/
def byte (n : Nat) : Byte := BitVec.ofNat 8 n

/-- A Boolean as bit `i` of a byte. -/
def bitAt (v : Bool) (i : Nat) : Byte := if v then BitVec.ofNat 8 (2 ^ i) else 0

/-- A 2-bit field as a device number. -/
def deviceOf (b : Byte) (lo : Nat) : Fin 4 := ⟨(b.toNat >>> lo) % 4, Nat.mod_lt _ (by decide)⟩

/-! ### Codes -/

def Policy.code : Policy → Nat
  | .writeBack => 0
  | .writeThrough => 1
  | .readOnly => 2
  | .stream => 3

/-- A policy code of 4–7 names no policy (R191). -/
def Policy.ofCode : Nat → Option Policy
  | 0 => some .writeBack
  | 1 => some .writeThrough
  | 2 => some .readOnly
  | 3 => some .stream
  | _ => none

def Capacity.code : Capacity → Nat
  | .pages512 => 0
  | .pages1024 => 1
  | .pages2048 => 2

/-- A capacity code of 3 names no capacity (R191). -/
def Capacity.ofCode : Nat → Option Capacity
  | 0 => some .pages512
  | 1 => some .pages1024
  | 2 => some .pages2048
  | _ => none

/-- A capacity in pages (R30). -/
def Capacity.pages : Capacity → Nat
  | .pages512 => 512
  | .pages1024 => 1024
  | .pages2048 => 2048

/-- A polarity code of 2 or 3 names no polarity (R191). -/
def Polarity.ofCode : Nat → Option Polarity
  | 0 => some .leave
  | 1 => some .enter
  | _ => none

def Polarity.code : Polarity → Nat
  | .leave => 0
  | .enter => 1

def PartState.code : PartState → Nat
  | .starting => 0
  | .running => 1
  | .holdup => 2

def DeviceState.code : DeviceState → Nat
  | .absent => 0
  | .ready => 1
  | .programming => 2
  | .stuck => 3

def BufferState.code : BufferState → Nat
  | .free => 0
  | .clean => 1
  | .dirty => 2
  | .committing => 3
  | .failed => 4

def Cause.code : Cause → Nat
  | .unmapped => 1
  | .readOnly => 2
  | .holdLimit => 3
  | .device => 4
  | .bufferFailed => 5
  | .noBuffer => 6
  | .holdup => 7
  | .fetchFailed => 8

def CommandStatus.code : CommandStatus → Nat
  | .none => 0
  | .done => 1
  | .refused => 2
  | .unknown => 3

def ApplyStatus.code : ApplyStatus → Nat
  | .none => 0
  | .accepted => 1
  | .value => 2
  | .range => 3
  | .overlap => 4
  | .busyRegion => 5
  | .readOnly => 6

/-! ### Region entries (entries 0–7, descriptor records) -/

/-- The region that eight bytes say, or none when a field lies outside its range: the VALUE check of R25 (R191). Unused
bits take no part (R190). -/
def Region.ofBytes (v : Vector Byte 8) : Option Region :=
  let pageCount := bits v[2] 6 0 * 256 + v[3].toNat
  let deviceBase := bits v[4] 3 0 * 256 + v[5].toNat
  match Policy.ofCode (bits v[6] 6 4) with
  | none => none
  | some policy =>
    if pageCount = 0 ∨ pageCount > 16384 ∨ deviceBase > 2047 then none
    else some
      { enabled := v[0].getLsbD 7, hostBase := bits v[0] 5 0 * 256 + v[1].toNat, pageCount := pageCount,
        device := deviceOf v[4] 6, deviceBase := deviceBase, policy := policy, wait := bits v[6] 3 0,
        ageCode := bits v[7] 3 0, verify := v[7].getLsbD 7 }

/-- The eight bytes of a region entry. -/
def Region.toBytes (r : Region) : Vector Byte 8 :=
  #v[bitAt r.enabled 7 ||| byte (r.hostBase / 256), byte r.hostBase, byte (r.pageCount / 256), byte r.pageCount,
     byte (r.device.val * 64) ||| byte (r.deviceBase / 256), byte r.deviceBase,
     byte (r.policy.code * 16) ||| byte r.wait, bitAt r.verify 7 ||| byte r.ageCode]

/-! ### Watch entries (entries 8–15) -/

/-- The watch that eight bytes say, or none at a VALUE failure (R146, R191). Last-match is not taken from the bytes; it
stands as no here and is set by the apply. -/
def Watch.ofBytes (v : Vector Byte 8) : Option Watch :=
  match Polarity.ofCode (bits v[5] 1 0) with
  | none => none
  | some polarity =>
    if v[0].toNat * 65536 + v[1].toNat * 256 + v[2].toNat > 0xFFFFF then none
    else some
      { enabled := v[5].getLsbD 7, address := BitVec.ofNat 20 (v[0].toNat * 65536 + v[1].toNat * 256 + v[2].toNat),
        mask := v[3], compare := v[4], polarity := polarity, barrierBefore := v[6].getLsbD 0,
        barrierAfter := v[6].getLsbD 1, commit := v[6].getLsbD 2, lastMatch := false }

/-- The eight bytes of a watch entry. -/
def Watch.toBytes (w : Watch) : Vector Byte 8 :=
  #v[byte (w.address.toNat / 65536), byte (w.address.toNat / 256), byte w.address.toNat, w.mask, w.compare,
     bitAt w.enabled 7 ||| byte w.polarity.code,
     bitAt w.barrierBefore 0 ||| bitAt w.barrierAfter 1 ||| bitAt w.commit 2, bitAt w.lastMatch 0]

/-! ### Settings (entry 17, descriptor bytes 52–59) -/

/-- The capacities that the capacity byte names, or none when a code is 3 (R191). -/
def capacitiesOf (b : Byte) : Option (Vector Capacity 4) :=
  match Capacity.ofCode (bits b 1 0), Capacity.ofCode (bits b 3 2), Capacity.ofCode (bits b 5 4),
      Capacity.ofCode (bits b 7 6) with
  | some c0, some c1, some c2, some c3 => some #v[c0, c1, c2, c3]
  | _, _, _, _ => none

/-- The settings and capacities that eight bytes say, or none at a VALUE failure (R30, R84, R132, R161, R191). -/
def Settings.ofBytes (v : Vector Byte 8) : Option (Settings × Vector Capacity 4) :=
  match capacitiesOf v[5] with
  | none => none
  | some capacities =>
    if v[1].toNat > 8 ∨ v[3].toNat > 15 ∨ v[4].toNat = 0 ∨ v[4].toNat > 31 then none
    else some
      ({ fillByte := v[0], lowWater := v[1].toNat, holdLimit := v[2].toNat, budget := v[3].toNat,
         programTimeout := v[4].toNat, eventEnable := v[7] ++ v[6] }, capacities)

/-- The eight bytes of entry 17. -/
def Settings.toBytes (x : Settings) (capacities : Vector Capacity 4) : Vector Byte 8 :=
  #v[x.fillByte, byte x.lowWater, byte x.holdLimit, byte x.budget, byte x.programTimeout,
     byte (capacities[0].code + capacities[1].code * 4 + capacities[2].code * 16 + capacities[3].code * 64),
     x.eventEnable.extractLsb' 0 8, x.eventEnable.extractLsb' 8 8]

/-! ### Read-only entries -/

/-- The two bytes of a device record in entry 16. -/
def Device.toBytes (d : Device) : Vector Byte 2 :=
  #v[bitAt d.probe.isSome 7 ||| byte d.state.code, byte d.capacity.code]

/-- The eight bytes of the fault record (entry 19). -/
def FaultRecord.toBytes (f : FaultRecord) : Vector Byte 8 :=
  #v[bitAt f.full 0 ||| bitAt f.overflow 1 ||| bitAt (decide (f.direction = .write)) 2,
     match f.cause with
     | none => 0
     | some c => byte c.code,
     byte (f.address.toNat / 65536), byte (f.address.toNat / 256), byte f.address.toNat, 0, 0, 0]

/-- The four status bytes of a buffer, with the position of its entry (R59). A FREE buffer's tag reads as device 0
page 0. -/
def PageBuffer.toBytes (x : PageBuffer) (position : Option Nat) : Vector Byte 4 :=
  let place := match position with
    | none => 255
    | some p => p
  match x.tag with
  | none => #v[bitAt x.fill 7 ||| byte (x.attempts * 16) ||| byte x.state.code, 0, 0, byte place]
  | some t =>
    #v[bitAt x.fill 7 ||| byte (x.attempts * 16) ||| byte x.state.code,
       byte (t.device.val * 64) ||| byte (t.page / 256), byte t.page, byte place]

/-- Entry 29 (R182). -/
def identification : Vector Byte 8 := #v[0xE7, 0x04, 0x16, 0x01, 16, 8, 8, 4]

end Sys2Proof.Machine
end

