-- ==== Sys2Proof/Machine/Queue.lean ====
section
/-! DEFINITION. The commit queue as a list, head first (04 sections 4.1 and 4.2). -/
namespace Sys2Proof.Machine

/-- Whether an entry is a barrier marker. -/
def QueueEntry.isMarker : QueueEntry → Bool
  | .buffer .. => false
  | .marker _ => true

/-- Whether an entry is a marker that carries the flush mark. -/
def QueueEntry.isMarked : QueueEntry → Bool
  | .buffer .. => false
  | .marker f => f

/-- Whether an entry is the buffer entry of `b`. -/
def QueueEntry.isFor (b : Fin 16) : QueueEntry → Bool
  | .buffer b' _ _ => decide (b' = b)
  | .marker _ => false

/-- The buffer an entry stands for. -/
def QueueEntry.buffer? : QueueEntry → Option (Fin 16)
  | .buffer b _ _ => some b
  | .marker _ => none

/-- Whether an entry has an own cause, AGED or PUSH (R67). -/
def QueueEntry.hasOwnCause : QueueEntry → Bool
  | .buffer _ aged push => aged || push
  | .marker _ => false

/-- Giving the PUSH cause to one entry (R67). -/
def QueueEntry.pushFor (b : Fin 16) : QueueEntry → QueueEntry
  | .buffer b' aged push => .buffer b' aged (push || decide (b' = b))
  | .marker f => .marker f

/-- Giving the AGED cause to one entry (R68). -/
def QueueEntry.ageFor (b : Fin 16) : QueueEntry → QueueEntry
  | .buffer b' aged push => .buffer b' (aged || decide (b' = b)) push
  | .marker f => .marker f

/-- A marker without its flush mark. -/
def QueueEntry.unmark : QueueEntry → QueueEntry
  | .buffer b aged push => .buffer b aged push
  | .marker _ => .marker false

namespace Queue

/-- Whether `b` has its entry in the queue. -/
def hasEntry (q : List QueueEntry) (b : Fin 16) : Bool := q.any (·.isFor b)

/-- Position of `b`'s entry, counted from the head with markers (R61). -/
def position (q : List QueueEntry) (b : Fin 16) : Option Nat := q.findIdx? (·.isFor b)

/-- Number of barrier markers (R58). -/
def markerCount (q : List QueueEntry) : Nat := q.countP (·.isMarker)

/-- What stands before `b`'s entry. -/
def before (q : List QueueEntry) (b : Fin 16) : List QueueEntry := q.takeWhile fun e => !e.isFor b

/-- `b`'s entry and what stands behind it. -/
def fromEntry (q : List QueueEntry) (b : Fin 16) : List QueueEntry := q.dropWhile fun e => !e.isFor b

/-- Whether a marker stands before `b`'s entry. -/
def markerBefore (q : List QueueEntry) (b : Fin 16) : Bool := (before q b).any (·.isMarker)

/-- Whether a marker stands behind `b`'s entry. -/
def markerBehind (q : List QueueEntry) (b : Fin 16) : Bool := (fromEntry q b).any (·.isMarker)

/-- The buffers of the front generation, nearest the head first (04 section 4.1). -/
def frontBuffers (q : List QueueEntry) : List (Fin 16) := (q.takeWhile fun e => !e.isMarker).filterMap (·.buffer?)

/-- Appending the entry of `b` at the tail, with no own cause (R62). -/
def append (q : List QueueEntry) (b : Fin 16) : List QueueEntry := q ++ [.buffer b false false]

/-- The entry of `b` is given PUSH; giving a cause it has leaves it as it is (R67). -/
def givePush (q : List QueueEntry) (b : Fin 16) : List QueueEntry := q.map (QueueEntry.pushFor b)

/-- The entry of `b` is given AGED. -/
def giveAged (q : List QueueEntry) (b : Fin 16) : List QueueEntry := q.map (QueueEntry.ageFor b)

/-- A barrier request (R65): a marker without a flush mark is appended where the tail is a buffer entry. -/
def barrier (q : List QueueEntry) : List QueueEntry :=
  match q.getLast? with
  | some (.buffer ..) => q ++ [.marker false]
  | _ => q

/-- Putting an entry in front of a queue; a marker before a marker is merged with it, and the merged marker carries the
flush mark if either did (R64). -/
def consMerged (e : QueueEntry) (q : List QueueEntry) : List QueueEntry :=
  match e, q with
  | .marker f, .marker g :: rest => .marker (f || g) :: rest
  | e, q => e :: q

/-- Merging the markers that stand side by side (R64). -/
def mergeMarkers (q : List QueueEntry) : List QueueEntry := q.foldr consMerged []

/-- Dropping a marker at the head (R64). -/
def dropHeadMarker : List QueueEntry → List QueueEntry
  | .marker _ :: rest => rest
  | q => q

/-- Normalisation (R64). -/
def normalise (q : List QueueEntry) : List QueueEntry := dropHeadMarker (mergeMarkers q)

/-- Whether normalisation drops a marker that carries the flush mark, which completes the pending flush (R64). -/
def dropsFlushMark (q : List QueueEntry) : Bool :=
  match mergeMarkers q with
  | .marker f :: _ => f
  | _ => false

/-- The queue without the entry of `b`, before normalisation (R63). -/
def without (q : List QueueEntry) (b : Fin 16) : List QueueEntry := q.filter fun e => !e.isFor b

/-- Removing the flush mark wherever it stands (R80, R81). -/
def unmark (q : List QueueEntry) : List QueueEntry := q.map QueueEntry.unmark

/-- Setting the flush mark on the marker at the tail (R80). -/
def markTail : List QueueEntry → List QueueEntry
  | [] => []
  | [.marker _] => [.marker true]
  | e :: rest => e :: markTail rest

/-- Whether a flush is pending: a marker carries the mark (04 section 4.6). -/
def flushPending (q : List QueueEntry) : Bool := q.any (·.isMarked)

/-- The buffers whose entries stand before the flush-marked marker. -/
def flushedBuffers (q : List QueueEntry) : List (Fin 16) :=
  (q.takeWhile fun e => !e.isMarked).filterMap (·.buffer?)

/-- Whether some entry for which `failed` holds has a marker behind it in the list. -/
def failureSealed (failed : Fin 16 → Bool) : List QueueEntry → Bool
  | [] => false
  | .buffer b _ _ :: rest => (failed b && rest.any (·.isMarker)) || failureSealed failed rest
  | .marker _ :: rest => failureSealed failed rest

end Queue

end Sys2Proof.Machine
end

