-- ==== Sys2Proof/Machine/Ops.lean ====
section
/-! DEFINITION. The named operations over the registers and stores of the state: the clock, the access record, byte
maps, buffer records, the request set, the link and the device records. -/
namespace Sys2Proof.Machine

/-! ### Clock -/

/-- The clock is moved to a time that has passed; it never moves back (log entry 1). -/
def State.advanceTo (s : State) (t : Time) : State := { s with now := max s.now t }

/-! ### The access record -/

/-- What the PENDING access waits on, if the Port is PENDING. -/
def State.waiting (s : State) : Option Wait :=
  match s.port.access with
  | none => none
  | some a =>
    match a.status with
    | .pending w => some w
    | .done _ => none

/-- The decode of the access in progress, if it has one. -/
def State.accessDecode (s : State) : Option Decode := s.port.access.bind (·.decode)

/-- The access record is replaced. -/
def State.setAccess (s : State) (a : Option Access) : State := { s with port := { s.port with access := a } }

/-- The PENDING access waits on `w` from now on. -/
def State.waitOn (s : State) (w : Wait) : State :=
  match s.port.access with
  | none => s
  | some a => s.setAccess (some { a with status := .pending w })

/-- The fault record takes a refusal (R10): it captures the first, and a later one sets overflow. -/
def FaultRecord.capture (f : FaultRecord) (a : Access) (c : Cause) : FaultRecord :=
  if f.full then { f with overflow := true }
  else { full := true, address := a.address, direction := a.direction, cause := some c, overflow := false }

/-- A COMPLETED report (R7): taken while the Port is PENDING (R6); a read's byte goes into the read byte register. -/
def State.complete (s : State) (readByte : Byte) : State :=
  match s.port.access with
  | none => s
  | some a =>
    match a.status with
    | .done _ => s
    | .pending _ =>
      { s with port := { s.port with
          access := some { a with status := .done .completed }
          readByte := if a.direction = .read then readByte else s.port.readByte } }

/-- A refusal (R8): taken while the Port is PENDING. A read takes the fill byte in force, the fault record captures the
access or records an overflow, and ACCESS_FAULT is raised. -/
def State.refuse (s : State) (c : Cause) : State :=
  match s.port.access with
  | none => s
  | some a =>
    match a.status with
    | .done _ => s
    | .pending _ =>
      State.raise
        { s with port := { s.port with
            access := some { a with status := .done (.refused c) }
            readByte := if a.direction = .read then s.settings.fillByte else s.port.readByte
            fault := s.port.fault.capture a c } } .accessFault

/-! ### Byte maps -/

/-- The map that holds one offset. -/
def offsetBit (offset : Nat) : OffsetMap := BitVec.twoPow 64 offset

/-- The lowest offset in a map; 0 for the empty map. -/
def lowest (m : OffsetMap) : Nat := ((List.range 64).find? fun i => m.getLsbD i).getD 0

/-- The highest offset in a map; 0 for the empty map. -/
def highest (m : OffsetMap) : Nat := ((List.range 64).reverse.find? fun i => m.getLsbD i).getD 0

/-- The number of offsets of the span of a map, both ends included (00, "Maps"). -/
def spanLength (m : OffsetMap) : Nat := highest m - lowest m + 1

/-- Whether every offset of the span of `dirty` is in `valid` (R86). -/
def spanKnown (dirty valid : OffsetMap) : Bool :=
  (List.range 64).all fun i => !(decide (lowest dirty ≤ i) && decide (i ≤ highest dirty)) || valid.getLsbD i

/-! ### Buffer records -/

/-- A buffer record is replaced. -/
def State.setBuffer (s : State) (b : Fin 16) (x : PageBuffer) : State := { s with buffers := s.buffers.set b x }

/-- The buffer that stands for a device page, if the page is resident (R36). -/
def State.findBuffer (s : State) (device : Fin 4) (page : Nat) : Option (Fin 16) :=
  (List.finRange 16).find? fun b =>
    decide (s.buffers[b].state ≠ .free) && decide (s.buffers[b].tag = some { device := device, page := page })

/-- Whether a record is evictable: FREE, or CLEAN with its fill flag clear (R39). -/
def PageBuffer.evictable (x : PageBuffer) : Bool :=
  decide (x.state = .free) || (decide (x.state = .clean) && !x.fill)

/-- The evictable count (R39). -/
def State.evictableCount (s : State) : Nat := (List.finRange 16).countP fun b => s.buffers[b].evictable

/-- The buffer an allocation takes (R39): the lowest-numbered FREE buffer, otherwise the least recent CLEAN unpinned
one. -/
def State.victim (s : State) : Option (Fin 16) :=
  ((List.finRange 16).find? fun b => decide (s.buffers[b].state = .free)).or
    (s.recency.reverse.find? fun b => decide (s.buffers[b].state = .clean) && !s.buffers[b].fill)

/-- The byte at a device address as a resident buffer knows it, if it does (R44, R139, R140). -/
def State.knownByte (s : State) (device : Fin 4) (address : Nat) : Option Byte :=
  match s.findBuffer device (address / 64) with
  | none => none
  | some b =>
    if s.buffers[b].valid.getLsbD (address % 64) then
      some (s.buffers[b].data[address % 64]'(Nat.mod_lt _ (by decide)))
    else none

/-- A buffer moves to, or joins at, the front of the recency list (R37). -/
def State.touch (s : State) (b : Fin 16) : State := { s with recency := b :: s.recency.erase b }

/-- A record takes a host byte (R49): its offset is valid and dirty, and no longer in flight. -/
def PageBuffer.write (x : PageBuffer) (offset : Fin 64) (v : Byte) : PageBuffer :=
  { x with
    data := x.data.set offset v
    valid := x.valid ||| offsetBit offset
    dirty := x.dirty ||| offsetBit offset
    inFlight := x.inFlight &&& ~~~offsetBit offset }

/-- A record takes a fetched page (R41): an offset already valid keeps its byte, and all 64 become valid. -/
def PageBuffer.merge (x : PageBuffer) (fetched : PageBytes) : PageBuffer :=
  { x with
    data := Vector.ofFn fun i => if x.valid.getLsbD i then x.data[i] else fetched[i]
    valid := BitVec.allOnes 64
    fill := false }

/-- A record with the in-flight offsets returned to the dirty map (R94, R96, R98, R101). -/
def PageBuffer.returnInFlight (x : PageBuffer) : PageBuffer :=
  { x with dirty := x.dirty ||| x.inFlight, inFlight := 0 }

/-! ### Commit queue of the state -/

/-- Whether a buffer is FAILED. -/
def State.isFailed (s : State) (b : Fin 16) : Bool := decide (s.buffers[b].state = .failed)

/-- Whether the entry of `b` is blocked (R74): a FAILED entry stands before a marker that stands before it. -/
def State.blocked (s : State) (b : Fin 16) : Bool :=
  Queue.hasEntry s.queue b && Queue.failureSealed s.isFailed (Queue.before s.queue b)

/-- A barrier request (R65). -/
def State.barrierRequest (s : State) : State := { s with queue := Queue.barrier s.queue }

/-- The entry of `b` is given PUSH (R67). -/
def State.givePush (s : State) (b : Fin 16) : State := { s with queue := Queue.givePush s.queue b }

/-- The entry of `b` is removed and the queue normalised (R63, R64): its commit region and age deadline become absent,
and a dropped flush-marked marker completes the flush. -/
def State.removeEntry (s : State) (b : Fin 16) : State :=
  let q := Queue.without s.queue b
  let s' := { s with
    queue := Queue.normalise q
    buffers := s.buffers.set b { s.buffers[b] with commitRegion := none, ageDeadline := none } }
  if Queue.dropsFlushMark q then s'.raise .flushDone else s'

/-! ### Request set and link -/

/-- An operation joins the request set (R117). -/
def State.request (s : State) (o : Operation) : State := { s with requests := s.requests ++ [o] }

/-- The operations of a kind for a device leave the request set without a report (R117). -/
def State.withdraw (s : State) (k : OperationKind) (d : Fin 4) : State :=
  { s with requests := s.requests.filter fun o => !(decide (o.kind = k) && decide (o.device = d)) }

/-- Whether the request set holds an operation of a kind for a device. -/
def State.requested (s : State) (k : OperationKind) (d : Fin 4) : Bool :=
  s.requests.any fun o => decide (o.kind = k) && decide (o.device = d)

/-- Whether an operation of a kind for a device is on the link. -/
def State.onLink (s : State) (k : OperationKind) (d : Fin 4) : Bool :=
  match s.link with
  | none => false
  | some l => decide (l.operation.kind = k) && decide (l.operation.device = d)

/-- The operation on the link loses its requester, where it is a page fetch of `b` (R38). -/
def State.orphanFetch (s : State) (b : Fin 16) : State :=
  match s.link with
  | none => s
  | some l =>
    if l.operation.kind = .pageFetch b then { s with link := some { l with hasRequester := false } } else s

/-- A page fetch of the whole tag page is requested for `b`, and its fill flag set (R40). -/
def State.requestFetch (s : State) (b : Fin 16) : State :=
  match s.buffers[b].tag with
  | none => s
  | some t =>
    (s.setBuffer b { s.buffers[b] with fill := true }).request
      { kind := .pageFetch b, device := t.device, start := t.page * 64, length := 64 }

/-- The page fetch of `b`, not yet started, is cancelled, and its fill flag cleared (R43, R104). -/
def State.cancelFetch (s : State) (b : Fin 16) : State :=
  { s with
    requests := s.requests.filter fun o => !decide (o.kind = .pageFetch b)
    buffers := s.buffers.set b { s.buffers[b] with fill := false } }

/-- Whether the page fetch of `b` is requested and not started. -/
def State.fetchRequested (s : State) (b : Fin 16) : Bool := s.requests.any fun o => decide (o.kind = .pageFetch b)

/-! ### Device records -/

/-- A device record is replaced. -/
def State.setDevice (s : State) (d : Fin 4) (x : Device) : State := { s with devices := s.devices.set d x }

/-- Bytes of a device. -/
def Device.bytes (x : Device) : Nat := x.capacity.pages * 64

/-- The address counter after a transfer (R116). None is kept for an ABSENT device (R126). -/
def Device.moveCounter (x : Device) (address : Nat) : Device :=
  { x with counter := if x.state = .absent then none else some address }

/-- The transmit store copy for a device is released (R92). -/
def State.releaseSpan (s : State) (d : Fin 4) : State := { s with transmit := s.transmit.set d none }

/-- Whether an operation can be carried to a device at all: a STUCK device's and an ABSENT device's requests fail before
they reach the link (R115, R127). -/
def State.unreachable (s : State) (d : Fin 4) : Bool :=
  decide (s.devices[d].state = .absent) || decide (s.devices[d].state = .stuck)

end Sys2Proof.Machine
end

