-- ==== Sys2Proof/Machine/Regions.lean ====
section
/-! DEFINITION. The Region Decoder (02): decode, and the checks that guard the table and the capacities. -/
namespace Sys2Proof.Machine

/-- Whether a region is enabled and its host range holds a host page (R18). -/
def Region.covers (r : Region) (page : Nat) : Bool :=
  r.enabled && decide (r.hostBase ≤ page) && decide (page < r.hostBase + r.pageCount)

/-- Whether a region lies within the host space and within a capacity (R17, R26). -/
def Region.within (r : Region) (c : Capacity) : Bool :=
  decide (r.hostBase + r.pageCount ≤ Config.hostPages) && decide (r.deviceBase + r.pageCount ≤ c.pages)

/-- Whether two regions' host ranges share a host page (R27). -/
def Region.overlaps (r r' : Region) : Bool :=
  decide (r.hostBase < r'.hostBase + r'.pageCount) && decide (r'.hostBase < r.hostBase + r.pageCount)

/-- Whether a guarded field differs (section 2.5). -/
def Region.guardedChanged (r r' : Region) : Bool :=
  decide (r.enabled ≠ r'.enabled) || decide (r.hostBase ≠ r'.hostBase) || decide (r.pageCount ≠ r'.pageCount) ||
    decide (r.device ≠ r'.device) || decide (r.deviceBase ≠ r'.deviceBase) || decide (r.policy ≠ r'.policy)

/-- The last device address of a region's device range (R137). -/
def Region.lastAddress (r : Region) : Nat := (r.deviceBase + r.pageCount) * 64 - 1

/-- The decode of a host address by the table as it stands (R18), or none when no enabled region contains its page. -/
def State.decode (s : State) (address : HostAddress) : Option Decode :=
  match (List.finRange 8).find? fun n => s.regions[n].covers (address.toNat / 64) with
  | none => none
  | some n =>
    let r := s.regions[n]
    some
      { region := n, device := r.device, address := r.deviceBase * 64 + (address.toNat - r.hostBase * 64),
        policy := r.policy, wait := r.wait }

/-- Whether some buffer has a region as its commit region (R28). -/
def State.regionBusy (s : State) (n : Fin 8) : Bool :=
  (List.finRange 16).any fun b => decide (s.buffers[b].commitRegion = some n)

/-- Whether an enabled region overlaps another enabled region than entry `n` (R27). -/
def State.overlapsOther (s : State) (n : Fin 8) (r : Region) : Bool :=
  (List.finRange 8).any fun m => decide (m ≠ n) && s.regions[m].enabled && r.overlaps s.regions[m]

/-- The outcome of the checks of a region apply (R25): the first that fails names the status. -/
def State.checkRegion (s : State) (n : Fin 8) (bytes : Vector Byte 8) : Except ApplyStatus Region :=
  match Region.ofBytes bytes with
  | none => .error .value
  | some r =>
    if r.enabled && !r.within s.devices[r.device].capacity then .error .range
    else if r.enabled && s.overlapsOther n r then .error .overlap
    else if s.regions[n].guardedChanged r && s.regionBusy n then .error .busyRegion
    else .ok r

/-- The capacities now in force. -/
def State.capacities (s : State) : Vector Capacity 4 := s.devices.map (·.capacity)

/-- Whether a new capacity of device `d` leaves an enabled region beyond it (R30, RANGE). -/
def State.capacityCutsRegion (s : State) (d : Fin 4) (c : Capacity) : Bool :=
  (List.finRange 8).any fun n =>
    s.regions[n].enabled && decide (s.regions[n].device = d) &&
      decide (s.regions[n].deviceBase + s.regions[n].pageCount > c.pages)

/-- Whether a buffer holds up a capacity change of device `d`: tagged with it and DIRTY, COMMITTING, FAILED or pinned
(R30, BUSY_REGION). -/
def PageBuffer.holdsDevice (x : PageBuffer) (d : Fin 4) : Bool :=
  decide (x.tag.map (·.device) = some d) &&
    (decide (x.state = .dirty) || decide (x.state = .committing) || decide (x.state = .failed) || x.fill)

/-- Whether pending writes, fills or the PENDING access hold up a capacity change of device `d` (R30, BUSY_REGION). -/
def State.deviceBusy (s : State) (d : Fin 4) : Bool :=
  ((List.finRange 16).any fun b => s.buffers[b].holdsDevice d) ||
    (s.waiting.isSome && decide (s.accessDecode.map (·.device) = some d))

/-- Whether the capacity code of device `d` is changed by an apply of entry 17 (R30). -/
def State.capacityChanged (s : State) (new : Vector Capacity 4) (d : Fin 4) : Bool :=
  decide (s.devices[d].capacity ≠ new[d])

/-- The outcome of the checks of a settings apply (R30): VALUE, then RANGE and then BUSY_REGION over the changed
capacities (log entry 24). -/
def State.checkSettings (s : State) (bytes : Vector Byte 8) : Except ApplyStatus (Settings × Vector Capacity 4) :=
  match Settings.ofBytes bytes with
  | none => .error .value
  | some (x, new) =>
    if (List.finRange 4).any fun d => s.capacityChanged new d && s.capacityCutsRegion d new[d] then .error .range
    else if (List.finRange 4).any fun d => s.capacityChanged new d && s.deviceBusy d then .error .busyRegion
    else .ok (x, new)

end Sys2Proof.Machine
end

