-- ==== Sys2Proof/Machine/Stream.lean ====
section
/-! DEFINITION. The Sequential Read Window (07): reads at the window, refill, coherence. -/
namespace Sys2Proof.Machine

/-- The refusal cause of a stall (R138). -/
def Stall.cause : Stall → Cause
  | .fetchFailed => .fetchFailed
  | .device => .device

/-- The stream record is replaced. -/
def State.setStream (s : State) (x : Stream) : State := { s with stream := x }

/-- Whether a burst covers a device address. -/
def Burst.covers (u : Burst) (address : Nat) : Bool :=
  decide (u.start ≤ address) && decide (address < u.start + u.length)

/-- Whether a device address lies in the stream's guarded range (R56, R143). -/
def Stream.guards (x : Stream) (device : Fin 4) (address : Nat) : Bool :=
  match x.context with
  | none => false
  | some c =>
    decide (c.device = device) &&
      ((decide (c.address ≤ address) && decide (address < c.address + x.queue.length)) ||
        x.burst.any fun u => !u.spoiled && u.covers address)

/-- A coherence hit (R143): the queue is emptied and the burst spoiled; the next fields and the stall are kept. -/
def Stream.spoil (x : Stream) : Stream :=
  { x with queue := [], burst := x.burst.map fun u => { u with spoiled := true } }

/-- The device address of an applied write is passed to the Window (R56). -/
def State.streamWritten (s : State) (device : Fin 4) (address : Nat) : State :=
  if s.stream.guards device address then s.setStream s.stream.spoil else s

/-- The device addresses of a discarded page are passed to the Window (R106). -/
def State.streamDiscarded (s : State) (device : Fin 4) (page : Nat) : State :=
  if (List.range 64).any fun i => s.stream.guards device (page * 64 + i) then s.setStream s.stream.spoil else s

/-- A burst not yet started is withdrawn, and one on the link becomes spoiled (R137, R143, R144). -/
def State.stopBurst (s : State) : State :=
  match s.stream.burst with
  | none => s
  | some u =>
    if s.requested .streamRead u.device then
      (s.withdraw .streamRead u.device).setStream { s.stream with burst := none }
    else s.setStream { s.stream with burst := some { u with spoiled := true } }

/-- The context becomes IDLE: the next fields absent, the queue empty, the stall none, the burst stopped; the last byte
is kept (R142, R143, R144). -/
def State.streamIdle (s : State) : State :=
  let s1 := s.stopBurst
  s1.setStream { s1.stream with context := none, queue := [], stall := none }

/-- The Buffer step (R139): bytes known in the page buffers are appended from the fill address on, up to 16 bytes and
to the range limit. The first argument bounds the number of bytes looked at. -/
def bufferStep (known : Nat → Option Byte) (address limit : Nat) : Nat → List Byte → List Byte
  | 0, q => q
  | n + 1, q =>
    if q.length < Config.streamQueueBytes ∧ address + q.length ≤ limit then
      match known (address + q.length) with
      | some v => bufferStep known address limit n (q ++ [v])
      | none => q
    else q

/-- The Device step (R139): one stream read for the rest of the queue, within the range limit. A request for a STUCK or
ABSENT device fails at once (R115, R127) and is recorded as the stall (R141). -/
def State.deviceStep (s : State) (c : StreamContext) : State :=
  let fillAddress := c.address + s.stream.queue.length
  if s.stream.queue.length < Config.streamQueueBytes ∧ fillAddress ≤ c.limit then
    if s.unreachable c.device then s.setStream { s.stream with stall := some .device }
    else
      let n := min (Config.streamQueueBytes - s.stream.queue.length) (c.limit - fillAddress + 1)
      (s.setStream { s.stream with
        burst := some { device := c.device, start := fillAddress, length := n, spoiled := false } }).request
        { kind := .streamRead, device := c.device, start := fillAddress, length := n }
  else s

/-- The Window plans a refill (R139), where a context exists, no burst exists, the stall is none and the part is
RUNNING. -/
def State.planRefill (s : State) : State :=
  match s.stream.context with
  | none => s
  | some c =>
    if s.stream.burst = none ∧ s.stream.stall = none ∧ s.part = .running then
      (s.setStream { s.stream with
        queue := bufferStep (s.knownByte c.device) c.address c.limit Config.streamQueueBytes s.stream.queue
        }).deviceStep c
    else s

/-- A served read (R136): completed with the head byte, after which the context advances and a refill is planned, or the
context becomes IDLE at the range limit (R142). -/
def State.serveStream (s : State) : State :=
  match s.stream.context, s.stream.queue with
  | some c, v :: rest =>
    let s1 := s.complete v
    if c.address = c.limit then
      s1.setStream { s1.stream with context := none, queue := [], stall := none, lastByte := v }
    else
      (s1.setStream { s1.stream with
        context := some { c with hostAddress := c.hostAddress + 1, address := c.address + 1 }
        queue := rest, lastByte := v }).planRefill
  | _, _ => s

/-- Whether a read matches the stream (R135). -/
def StreamContext.matches (c : StreamContext) (address : HostAddress) (d : Decode) : Bool :=
  decide (c.hostAddress = address.toNat) && decide (c.region = d.region) && decide (c.device = d.device) &&
    decide (c.address = d.address)

/-- A resynchronising read (R137): completed with the last byte; the stream is set up at its address. -/
def State.resynchronise (s : State) (address : HostAddress) (d : Decode) : State :=
  let s1 := (s.complete s.stream.lastByte).stopBurst
  (s1.setStream { s1.stream with
    context := some { hostAddress := address.toNat, region := d.region, device := d.device, address := d.address,
                      limit := s.regions[d.region].lastAddress }
    queue := [], stall := none }).planRefill

/-- A demand read (R138): refused at once with the stall, or waiting for the head byte, with a plan made where no burst
exists. What the plan places is served when the step's consequences are drawn (R139). -/
def State.demandStream (s : State) : State :=
  match s.stream.stall with
  | some x => s.refuse x.cause
  | none => if s.stream.burst.isSome then s.waitOn .streamByte else (s.waitOn .streamByte).planRefill

/-- A STREAM read handed to the Window (R135). -/
def State.streamRead (s : State) (address : HostAddress) (d : Decode) : State :=
  match s.stream.context with
  | none => s.resynchronise address d
  | some c =>
    if c.matches address d then
      if s.stream.queue = [] then s.demandStream else s.serveStream
    else s.resynchronise address d

/-- The bytes a completed burst places (R140): for each address the resident buffer's valid byte, or the device's. -/
def State.placedBytes (s : State) (u : Burst) (data : Vector Byte 16) : List Byte :=
  (List.range u.length).map fun i => (s.knownByte u.device (u.start + i)).getD (data[i]?.getD 0)

/-- A burst completes (R140): dropped when spoiled; otherwise placed, and a demand read served. Then a refill is
planned (log entry 16). -/
def State.burstComplete (s : State) (data : Vector Byte 16) : State :=
  match s.stream.burst with
  | none => s
  | some u =>
    if u.spoiled then (s.setStream { s.stream with burst := none }).planRefill
    else
      let s1 := s.setStream { s.stream with burst := none, queue := s.stream.queue ++ s.placedBytes u data }
      if s.waiting = some .streamByte then s1.serveStream else s1.planRefill

/-- A burst fails (R141): the stall is recorded unless the burst was spoiled; a demand read waiting on it is refused
(log entry 15). -/
def State.burstFailed (s : State) (x : Stall) : State :=
  match s.stream.burst with
  | none => s
  | some u =>
    let s1 := s.setStream { s.stream with burst := none, stall := if u.spoiled then s.stream.stall else some x }
    let s2 := if s.waiting = some .streamByte then s1.refuse x.cause else s1
    s2.planRefill

end Sys2Proof.Machine
end

