-- ==== Sys2Proof/Machine/Watches.lean ====
section
/-! DEFINITION. The Write Watch Unit (08): test, trigger, evaluation and completion. -/
namespace Sys2Proof.Machine

/-- The test of a write byte (R149): the masked bits agree with the pattern. -/
def Watch.isMatch (w : Watch) (v : Byte) : Bool := decide (v &&& w.mask = w.compare &&& w.mask)

/-- Whether a watch triggers on a write byte (R149). -/
def Watch.triggers (w : Watch) (v : Byte) : Bool :=
  match w.polarity with
  | .leave => w.lastMatch && !w.isMatch v
  | .enter => !w.lastMatch && w.isMatch v

/-- Whether a watch looks at writes to a host address (R148). -/
def Watch.watchesAddress (w : Watch) (address : HostAddress) : Bool := w.enabled && decide (w.address = address)

/-- The armed value of a polarity (08 section 8.1). -/
def Polarity.armed : Polarity → Bool
  | .leave => true
  | .enter => false

/-- Evaluation (R150): where a watch on the write's host address would trigger and has barrier-before, one barrier
request is made; a second one would find the marker of the first at the tail. -/
def State.evaluateWatches (s : State) (address : HostAddress) (v : Byte) : State :=
  if (List.finRange 8).any fun n =>
      s.watches[n].watchesAddress address && s.watches[n].triggers v && s.watches[n].barrierBefore
  then s.barrierRequest else s

/-- Completion of one watch (R151): last-match takes the test; a trigger raises the flag and takes the commit (R152)
and barrier-after (R153) actions, on the buffer the write was applied to. -/
def State.completeWatch (address : HostAddress) (v : Byte) (b : Fin 16) (s : State) (n : Fin 8) : State :=
  let w := s.watches[n]
  if w.watchesAddress address then
    let s1 := { s with watches := s.watches.set n { w with lastMatch := w.isMatch v } }
    if w.triggers v then
      let s2 := s1.raise (.watch n)
      let s3 := if w.commit then s2.givePush b else s2
      if w.barrierAfter then s3.barrierRequest else s3
    else s1
  else s

/-- Completion (R151): every watch on the address, in watch number order. -/
def State.completeWatches (s : State) (address : HostAddress) (v : Byte) (b : Fin 16) : State :=
  (List.finRange 8).foldl (State.completeWatch address v b) s

/-- A watch entry as an apply leaves it (R146): last-match takes the armed value of the new polarity, unless the entry
stays enabled with address, mask, compare and polarity unchanged. -/
def Watch.apply (old new : Watch) : Watch :=
  let kept := old.enabled && new.enabled && decide (old.address = new.address) && decide (old.mask = new.mask) &&
    decide (old.compare = new.compare) && decide (old.polarity = new.polarity)
  { new with lastMatch := if kept then old.lastMatch else new.polarity.armed }

end Sys2Proof.Machine
end

