-- ==== Sys2Proof/Machine/Pool.lean ====
section
/-! DEFINITION. The Page Buffer Pool (03): freeing, allocation, read resolution, write resolution, the wait for a
buffer; and the path of a write through watches, Scheduler and Pool (04 sections 4.4 and 4.5). -/
namespace Sys2Proof.Machine

/-- A buffer is freed (R38): its entry, if it has one, is removed, a fetch not started is cancelled and one on the link
loses its requester, and the buffer leaves the recency list. -/
def State.freeBuffer (s : State) (b : Fin 16) : State :=
  let s1 := if Queue.hasEntry s.queue b then s.removeEntry b else s
  let s2 := (s1.cancelFetch b).orphanFetch b
  { s2.setBuffer b PageBuffer.freed with recency := s2.recency.erase b }

/-- A buffer is freed where its valid map is empty (R42, R43). -/
def State.freeIfUnknown (s : State) (b : Fin 16) : State :=
  if s.buffers[b].valid = 0 then s.freeBuffer b else s

/-- The allocated buffer stands for a page, CLEAN with nothing known, at the front of the recency list (R39, R46). A
buffer that was not FREE is freed first. -/
def State.allocate (s : State) (b : Fin 16) (t : Tag) : State :=
  let s1 := if s.buffers[b].state = .free then s else s.freeBuffer b
  (s1.setBuffer b { PageBuffer.freed with state := .clean, tag := some t }).touch b

/-- The NO_BUFFER test (R54): no buffer is FREE, CLEAN or COMMITTING, and every DIRTY buffer is blocked. -/
def State.noBufferTest (s : State) : Bool :=
  (List.finRange 16).all fun b =>
    match s.buffers[b].state with
    | .free | .clean | .committing => false
    | .dirty => s.blocked b
    | .failed => true

/-- An access that finds no evictable buffer (R52): PRESSURE is raised, and the access waits, or is refused NO_BUFFER
where the test already holds. -/
def State.waitForBuffer (s : State) : State :=
  let s1 := s.raise .pressure
  if s1.noBufferTest then s1.refuse .noBuffer else s1.waitOn .buffer

/-! ### Reads (section 3.4) -/

/-- A read of a resident page (R44, R45). -/
def State.readResident (s : State) (b : Fin 16) (d : Decode) : State :=
  if s.buffers[b].valid.getLsbD (d.address % 64) then
    (s.touch b).complete (s.buffers[b].data[d.address % 64]'(Nat.mod_lt _ (by decide)))
  else if s.unreachable d.device then s.refuse .device
  else (if s.buffers[b].fill then s else s.requestFetch b).waitOn (.fetch b)

/-- A read of a page that is not resident (R46). -/
def State.readAbsent (s : State) (d : Decode) : State :=
  if s.unreachable d.device then s.refuse .device
  else
    match s.victim with
    | none => s.waitForBuffer
    | some b =>
      ((s.allocate b { device := d.device, page := d.address / 64 }).requestFetch b).waitOn (.fetch b)

/-- Read resolution against the pool and the device record as they stand (section 3.4). -/
def State.resolveRead (s : State) (d : Decode) : State :=
  match s.findBuffer d.device (d.address / 64) with
  | some b => s.readResident b d
  | none => s.readAbsent d

/-- A read waiting on the fetch of `b` is completed with the byte now at its offset (R47). -/
def State.answerRead (s : State) (b : Fin 16) (d : Decode) : State :=
  (s.touch b).complete (s.buffers[b].data[d.address % 64]'(Nat.mod_lt _ (by decide)))

/-! ### Writes (section 3.5) -/

/-- The age deadline of an entry created now through a region (R23). -/
def State.ageDeadlineFor (s : State) (region : Fin 8) : Option Time :=
  if s.regions[region].ageCode = 0 then none
  else some (s.now + 2 ^ (s.regions[region].ageCode - 1) * Config.millisecond)

/-- The write byte is placed in a buffer (R49). A CLEAN buffer becomes DIRTY, and its entry is appended with the write's
region as commit region (R62). -/
def State.placeByte (s : State) (b : Fin 16) (d : Decode) (v : Byte) : State :=
  let x := s.buffers[b].write ⟨d.address % 64, Nat.mod_lt _ (by decide)⟩ v
  if s.buffers[b].state = .clean then
    { (s.setBuffer b { x with
        state := .dirty, commitRegion := some d.region, attempts := 0, ageDeadline := s.ageDeadlineFor d.region
        }).touch b with
      queue := Queue.append s.queue b }
  else (s.setBuffer b x).touch b

/-- What follows the placing of the byte (R51): the watches' completion, the stream's coherence, and the outcome: a
WRITE_THROUGH write's entry is pushed and the access waits for it (R78), any other write is completed. -/
def State.finishWrite (s : State) (b : Fin 16) (address : HostAddress) (d : Decode) (v : Byte) : State :=
  let s1 := (s.completeWatches address v b).streamWritten d.device d.address
  if d.policy = .writeThrough then (s1.givePush b).waitOn (.entry b) else s1.complete 0

/-- Write resolution (R49, R50): applied to the resident buffer, or to a newly allocated one, or waiting for a buffer
(R52). -/
def State.resolveWrite (s : State) (address : HostAddress) (d : Decode) (v : Byte) : State :=
  match s.findBuffer d.device (d.address / 64) with
  | some b => (s.placeByte b d v).finishWrite b address d v
  | none =>
    match s.victim with
    | none => s.waitForBuffer
    | some b =>
      ((s.allocate b { device := d.device, page := d.address / 64 }).placeByte b d v).finishWrite b address d v

/-- The cross-generation check (R75): a write whose buffer has an entry with a marker behind it is refused BUFFER_FAILED
where the buffer is FAILED or the entry blocked, and held otherwise, with PUSH given to the entry (R76). -/
def State.checkedWrite (s : State) (address : HostAddress) (d : Decode) (v : Byte) : State :=
  match s.findBuffer d.device (d.address / 64) with
  | none => s.resolveWrite address d v
  | some b =>
    if Queue.hasEntry s.queue b && Queue.markerBehind s.queue b then
      if s.isFailed b || s.blocked b then s.refuse .bufferFailed
      else (s.givePush b).waitOn (.crossGeneration b)
    else s.resolveWrite address d v

/-- The path of a WRITE_BACK write (R6, R75), and of a WRITE_THROUGH write after its barrier request (R78). -/
def State.writePath (s : State) (address : HostAddress) (d : Decode) (v : Byte) : State :=
  (s.evaluateWatches address v).checkedWrite address d v

/-- The PENDING access resolved again by the Pool as it stands now (R38, R53, R76); absent for an access that was never
decoded, which no rule resolves again. -/
def State.resolveAgain (s : State) : Option State :=
  match s.port.access with
  | none => none
  | some a =>
    match a.decode, a.direction, a.writeByte with
    | some d, .read, _ => some (s.resolveRead d)
    | some d, .write, some v => some (s.resolveWrite a.address d v)
    | _, _, _ => none

/-! ### The end of an access by the Port -/

/-- Whether the Commit Engine waits on the page fetch of `b` (R40): `b` is COMMITTING in FILL. -/
def State.engineWaits (s : State) (b : Fin 16) : Bool :=
  decide (s.buffers[b].state = .committing) && decide (s.buffers[b].stage = some .fill)

/-- The owner hears that the access has ended (R6, R43): a fetch that has not started and has no waiter left is
cancelled, and its buffer freed where nothing is known. -/
def State.ownerHears (s : State) : State :=
  match s.waiting with
  | some (.fetch b) =>
    if !s.engineWaits b && s.fetchRequested b then (s.cancelFetch b).freeIfUnknown b else s
  | _ => s

/-- The Port refuses the PENDING access on its own account (R12, R15), and the owner hears of it. -/
def State.portRefuses (s : State) (c : Cause) : State := s.ownerHears.refuse c

/-- DROP_CLEAN (R57): every CLEAN buffer with its fill flag clear is freed. -/
def State.dropClean (s : State) : State :=
  (List.finRange 16).foldl (fun s b =>
    if s.buffers[b].state = .clean ∧ s.buffers[b].fill = false then s.freeBuffer b else s) s

end Sys2Proof.Machine
end

