-- ==== Sys2Proof/Machine/Scheduler.lean ====
section
/-! DEFINITION. The Commit Scheduler (04): causes, the wanted, eligible and blocked conditions, flush requests. -/
namespace Sys2Proof.Machine

/-! ### Causes and conditions (section 4.3) -/

/-- The head buffer entry: the buffer entry nearest the head whose buffer is DIRTY (R69). -/
def State.headDirty (s : State) : Option (Fin 16) :=
  (s.queue.filterMap (·.buffer?)).find? fun b => decide (s.buffers[b].state = .dirty)

/-- Whether the evictable count is below the low-water setting (R69, R84). -/
def State.lowOnBuffers (s : State) : Bool := decide (s.evictableCount < s.settings.lowWater)

/-- Whether an entry of the queue has a commit cause that lies in a stretch of the queue: an own cause, the FLUSH cause
where the stretch ends with the flush mark, PRESSURE on the head buffer entry, or HOLDUP (R67, R69). -/
def State.causeIn (s : State) (stretch : List QueueEntry) : Bool :=
  decide (s.part = .holdup) || stretch.any (·.hasOwnCause) || stretch.any (·.isMarked) ||
    (s.lowOnBuffers && s.headDirty.any fun h => stretch.any (·.isFor h))

/-- Whether the entry of `b` is wanted (R70): it, or a buffer entry behind it, has a commit cause. -/
def State.wanted (s : State) (b : Fin 16) : Bool :=
  Queue.hasEntry s.queue b && s.causeIn (Queue.fromEntry s.queue b)

/-- The device of a buffer's tag. -/
def State.deviceOfBuffer (s : State) (b : Fin 16) : Option (Fin 4) := s.buffers[b].tag.map (·.device)

/-- Whether a buffer of device `d` is COMMITTING (R71, R130). -/
def State.deviceCommitting (s : State) (d : Fin 4) : Bool :=
  (List.finRange 16).any fun b => decide (s.buffers[b].state = .committing) && decide (s.deviceOfBuffer b = some d)

/-- Whether the part is in HOLDUP with a budget count of 0 (R71, R104). -/
def State.budgetSpent (s : State) : Bool := decide (s.part = .holdup) && decide (s.supply.count = 0)

/-- The conditions of R71 on the entry of `b`, with the device in a given state: wanted, DIRTY, in the front generation,
no other buffer of the device COMMITTING, and not HOLDUP with the budget spent. -/
def State.startable (s : State) (x : DeviceState) (b : Fin 16) : Bool :=
  match s.deviceOfBuffer b with
  | none => false
  | some d =>
    s.wanted b && decide (s.buffers[b].state = .dirty) && !Queue.markerBefore s.queue b &&
      decide (s.devices[d].state = x) && !s.deviceCommitting d && !s.budgetSpent

/-- Whether the entry of `b` is eligible (R71). -/
def State.eligible (s : State) (b : Fin 16) : Bool := s.startable .ready b

/-- Whether the entry of `b` meets the conditions but for its ABSENT device (R72). -/
def State.meetsButForDevice (s : State) (b : Fin 16) : Bool := s.startable .absent b

/-- The short condition (R163): HOLDUP, budget count 0, and a buffer with an entry DIRTY. -/
def State.shortCondition (s : State) : Bool :=
  s.budgetSpent && (List.finRange 16).any fun b =>
    decide (s.buffers[b].state = .dirty) && Queue.hasEntry s.queue b

/-! ### Flush (section 4.6) -/

/-- A flush request (R80): FLUSH_DONE at once where the queue holds no buffer entry; otherwise a barrier request, and
the flush mark is moved to the marker at the tail. -/
def State.flushRequest (s : State) : State :=
  if s.dirtyLine then { s with queue := Queue.markTail (Queue.unmark (Queue.barrier s.queue)) }
  else s.raise .flushDone

/-- Whether a pending flush is complete (R81): no buffer entry before the flush-marked marker is DIRTY or COMMITTING. -/
def State.flushComplete (s : State) : Bool :=
  Queue.flushPending s.queue && (Queue.flushedBuffers s.queue).all fun b =>
    decide (s.buffers[b].state ≠ .dirty) && decide (s.buffers[b].state ≠ .committing)

/-- The flush completes (R81): the mark is removed and FLUSH_DONE raised. -/
def State.completeFlush (s : State) : State := { s with queue := Queue.unmark s.queue }.raise .flushDone

end Sys2Proof.Machine
end

