-- ==== Sys2Proof/Machine/Engine.lean ====
section
/-! DEFINITION. The Commit Engine (05): stages, ends, failures and stops of a commit. -/
namespace Sys2Proof.Machine

/-- What leaving a commit withdraws: a program or CHECK read not yet started leaves the request set, and the transmit
store copy is released (R101, R104). -/
def State.withdrawCommit (s : State) (b : Fin 16) : State :=
  match s.deviceOfBuffer b with
  | none => s
  | some d => ((s.withdraw (.program b) d).withdraw (.checkRead b) d).releaseSpan d

/-- A commit ends with the buffer DIRTY and its entry in place, without COMMIT_FAIL (R101, R104): in-flight offsets
return to the dirty map and the stage becomes absent. -/
def State.endDirty (s : State) (b : Fin 16) : State :=
  let s1 := s.withdrawCommit b
  s1.setBuffer b { s1.buffers[b].returnInFlight with state := .dirty, stage := none, sent := none }

/-- A buffer becomes FAILED (R100), and COMMIT_FAIL is raised. -/
def State.becomeFailed (s : State) (b : Fin 16) : State :=
  let s1 := s.withdrawCommit b
  (s1.setBuffer b { s1.buffers[b].returnInFlight with state := .failed, stage := none, sent := none }).raise .commitFail

/-- A commit stops at a budget count of 0 (R104): it ends DIRTY, and a fetch with no other waiter that has not started
is cancelled. -/
def State.stopCommit (s : State) (b : Fin 16) : State :=
  let s1 := if s.engineWaits b && s.fetchRequested b && !decide (s.waiting = some (.fetch b)) then s.cancelFetch b else s
  s1.endDirty b

/-- FILL is entered (R88): the fetch pending for the buffer is joined, or one is requested. -/
def State.enterFill (s : State) (b : Fin 16) : State :=
  let s1 := s.setBuffer b { s.buffers[b] with stage := some .fill }
  if s1.buffers[b].fill then s1 else s1.requestFetch b

/-- The bytes of the span of a record's dirty map (R91). -/
def PageBuffer.spanBytes (x : PageBuffer) : List Byte :=
  (List.range (spanLength x.dirty)).map fun i => (x.data[lowest x.dirty + i]?).getD 0

/-- Whether the commit region of a buffer asks for verification now (R24). -/
def State.verifyOf (s : State) (b : Fin 16) : Bool :=
  match s.buffers[b].commitRegion with
  | none => false
  | some n => s.regions[n].verify

/-- The SEND start proper, the budget aside (R91): verify is read, the span fixed and copied to the transmit store, the
dirty map moves to the in-flight map, and a program operation is requested. -/
def State.startSend (s : State) (b : Fin 16) : State :=
  match s.buffers[b].tag with
  | none => s
  | some t =>
    let x := s.buffers[b]
    let start := t.page * 64 + lowest x.dirty
    let s1 := s.setBuffer b { x with
      inFlight := x.inFlight ||| x.dirty, dirty := 0, stage := some .send
      sent := some { first := lowest x.dirty, length := spanLength x.dirty, verify := s.verifyOf b } }
    { s1 with transmit := s1.transmit.set t.device (some { start := start, bytes := x.spanBytes }) }.request
      { kind := .program b, device := t.device, start := start, length := spanLength x.dirty }

/-- SEND is entered (R91, R104): in HOLDUP it consumes a count, and with a count of 0 the commit stops instead. -/
def State.enterSend (s : State) (b : Fin 16) : State :=
  if s.part = .holdup then
    if s.supply.count = 0 then s.stopCommit b
    else { s with supply := { s.supply with count := s.supply.count - 1 } }.startSend b
  else s.startSend b

/-- The start choice (R86): FILL where the span of the dirty map is not wholly valid, SEND otherwise. -/
def State.startChoice (s : State) (b : Fin 16) : State :=
  if spanKnown s.buffers[b].dirty s.buffers[b].valid then s.enterSend b else s.enterFill b

/-- A commit starts (R86). -/
def State.startCommit (s : State) (b : Fin 16) : State :=
  (s.setBuffer b { s.buffers[b] with state := .committing }).startChoice b

/-- A commit ends well (R99): the buffer becomes CLEAN with its entry removed, or DIRTY with its entry kept. -/
def State.endWell (s : State) (b : Fin 16) : State :=
  let s1 := s.withdrawCommit b
  if s1.buffers[b].dirty = 0 then
    (s1.setBuffer b { s1.buffers[b] with state := .clean, inFlight := 0, stage := none, sent := none }).removeEntry b
  else s1.setBuffer b { s1.buffers[b] with state := .dirty, inFlight := 0, stage := none, sent := none }

/-- What a counted failure leads to (R90, R94, R98, R103): FAILED at the third; otherwise the commit ends DIRTY where its
device can no longer be reached, and is retried where it can. -/
def State.afterFailure (s : State) (b : Fin 16) (retry : State → State) : State :=
  let x := s.buffers[b].returnInFlight
  let s1 := s.setBuffer b { x with attempts := x.attempts + 1 }
  if x.attempts + 1 ≥ Config.programAttempts then s1.becomeFailed b
  else
    match s1.deviceOfBuffer b with
    | none => s1
    | some d => if s1.unreachable d then s1.endDirty b else retry s1

/-- The FILL fetch of `b` failed (R90): counted, and a new fetch is the retry. -/
def State.fillFailed (s : State) (b : Fin 16) : State := s.afterFailure b fun s => s.requestFetch b

/-- The program operation of `b` failed (R94): the copy is released, the failure counted, and the start choice is the
retry. -/
def State.sendFailed (s : State) (b : Fin 16) : State :=
  (s.withdrawCommit b).afterFailure b fun s => s.startChoice b

/-- A CHECK mismatch or a failed CHECK read (R98). -/
def State.checkFailed (s : State) (b : Fin 16) : State := s.afterFailure b fun s => s.startChoice b

/-- CHECK is entered (R97): an addressed read of the span of the SEND is requested. -/
def State.enterCheck (s : State) (b : Fin 16) : State :=
  match s.buffers[b].tag, s.buffers[b].sent with
  | some t, some r =>
    (s.setBuffer b { s.buffers[b] with stage := some .check }).request
      { kind := .checkRead b, device := t.device, start := t.page * 64 + r.first, length := r.length }
  | _, _ => s

/-- Whether the bytes read back agree with every in-flight offset (R97). Byte `i` of `data` was read at offset
`first + i`. -/
def PageBuffer.agrees (x : PageBuffer) (first : Nat) (data : PageBytes) : Bool :=
  (List.finRange 64).all fun o => !x.inFlight.getLsbD o || decide (data[o.val - first]? = some x.data[o])

/-- The buffer of device `d` that is COMMITTING in a stage, if there is one (R71 admits one per device). -/
def State.committingIn (s : State) (d : Fin 4) (stage : Stage) : Option (Fin 16) :=
  (List.finRange 16).find? fun b =>
    decide (s.buffers[b].state = .committing) && decide (s.buffers[b].stage = some stage) &&
      decide (s.deviceOfBuffer b = some d)

/-- A poll acknowledge ends BUSY (R95): CHECK follows where the verify read at the SEND start was yes and the part is
RUNNING; otherwise the commit ends well. -/
def State.endBusy (s : State) (b : Fin 16) : State :=
  if s.buffers[b].sent.any (·.verify) ∧ s.part = .running then s.enterCheck b else s.endWell b

/-- Whether `b` is COMMITTING in a stage. -/
def State.inStage (s : State) (b : Fin 16) (stage : Stage) : Bool :=
  decide (s.buffers[b].state = .committing) && decide (s.buffers[b].stage = some stage)

/-- The commit hand-over of an entry whose device is ABSENT (R87). -/
def State.handOver (s : State) (b : Fin 16) : State := s.becomeFailed b

end Sys2Proof.Machine
end

