-- ==== Sys2Proof/Machine/Startup.lean ====
section
/-! DEFINITION. The part state: start-up (11), entry into and exit from HOLDUP (09), and reset. -/
namespace Sys2Proof.Machine

/-! ### Hand-off of an access (01 section 1.2) -/

/-- A decoded access is handed to its owner (R6): a read to the Window or the Pool; a write to a READ_ONLY or STREAM
region is refused (R9), a WRITE_THROUGH write takes its barrier request first (R78). -/
def State.toOwner (s : State) (a : Access) (d : Decode) : State :=
  match a.direction, d.policy with
  | .read, .stream => s.streamRead a.address d
  | .read, .writeBack => s.resolveRead d
  | .read, .writeThrough => s.resolveRead d
  | .read, .readOnly => s.resolveRead d
  | .write, .readOnly => s.refuse .readOnly
  | .write, .stream => s.refuse .readOnly
  | .write, .writeBack => s.writePath a.address d s.port.writeLatch
  | .write, .writeThrough => s.barrierRequest.writePath a.address d s.port.writeLatch

/-- The write byte of an access is the latch content at the hand-off (R3). -/
def Access.takeByte (a : Access) (latch : Byte) : Access :=
  { a with writeByte := if a.direction = .write then some latch else none }

/-- The PENDING access is handed to the Region Decoder (R4): decoded once, with its wait deadline measured from the
active edge, or refused UNMAPPED (R19). -/
def State.handOff (s : State) : State :=
  match s.port.access with
  | none => s
  | some a =>
    match s.decode a.address with
    | none => (s.setAccess (some (a.takeByte s.port.writeLatch))).refuse .unmapped
    | some d =>
      let a' := { a.takeByte s.port.writeLatch with decode := some d, waitDeadline := a.edgeTime + d.wait }
      (s.setAccess (some a')).toOwner a' d

/-! ### HOLDUP (09) -/

/-- At the entry into HOLDUP a CHECK read not yet started is withdrawn and its commit ends well (R97). -/
def State.endUnstartedCheck (s : State) (b : Fin 16) : State :=
  if s.inStage b .check && s.requests.any (fun o => decide (o.kind = .checkRead b)) then s.endWell b else s

/-- Entry into HOLDUP (R159): the count is loaded and HOLDUP raised; a PENDING access is refused HOLDUP (R15), the
stream suspended (R144), and the CHECK reads not started are withdrawn (R97). Commits in FILL stop, where the count is
0, among the step's consequences (R104). -/
def State.enterHoldup (s : State) : State :=
  let s1 := { s with part := .holdup, supply := { s.supply with count := s.settings.budget } }.raise .holdup
  let s2 := (s1.portRefuses .holdup).streamIdle
  (List.finRange 16).foldl (fun s b => s.endUnstartedCheck b) s2

/-- Exit from HOLDUP (R165): RUNNING, and the count takes the setting. -/
def State.exitHoldup (s : State) : State :=
  { s with part := .running, supply := { s.supply with count := s.settings.budget } }

/-! ### Descriptor checks (11 section 11.4) -/

/-- Eight bytes of the descriptor from an offset on. -/
def eightBytes (data : PageBytes) (offset : Nat) : Vector Byte 8 :=
  Vector.ofFn fun i => (data[offset + i.val]?).getD 0

/-- The sum of bytes 0–61 modulo 65536 (R187). -/
def descriptorSum (data : PageBytes) : Nat := (((data.toList.take 62).map (·.toNat)).foldl (· + ·) 0) % 65536

/-- The header check (R186): signature and format. -/
def headerGood (data : PageBytes) : Bool :=
  decide (data[0] = 0x4B) && decide (data[1] = 0x4C) && decide (data[2] = 1)

/-- The region records 0 to count − 1, or none when a value lies outside its range (R187, Region values). -/
def descriptorRegions (data : PageBytes) (count : Nat) : Option (List Region) :=
  (List.range count).mapM fun k => Region.ofBytes (eightBytes data (4 + 8 * k))

/-- Whether the enabled regions of a list lie within the host space and their devices' capacities (R187). -/
def allWithin (regions : List Region) (capacities : Vector Capacity 4) : Bool :=
  regions.all fun r => !r.enabled || r.within capacities[r.device]

/-- Whether no two enabled regions of a list share a host page (R187). -/
def noneOverlap : List Region → Bool
  | [] => true
  | r :: rest => (!r.enabled || rest.all fun r' => !(r'.enabled && r.overlaps r')) && noneOverlap rest

/-- A configuration that start-up installs: region table, settings, capacities (R188). -/
structure Configuration where
  regions : Vector Region 8
  settings : Settings
  capacities : Vector Capacity 4
  deriving DecidableEq, Repr

/-- The default configuration (R32, R188). -/
def Configuration.defaults : Configuration :=
  { regions := (Vector.replicate 8 Region.cleared).set 0
      { enabled := true, hostBase := 0, pageCount := 2048, device := 0, deviceBase := 0, policy := .writeThrough,
        wait := 0, ageCode := 0, verify := false }
    settings := Settings.defaults
    capacities := Vector.replicate 4 .pages2048 }

/-- The configuration a descriptor with a good header carries, if it passes the checks of R187 in their order. -/
def descriptorConfiguration (data : PageBytes) : Option Configuration :=
  if descriptorSum data ≠ data[62].toNat * 256 + data[63].toNat then none
  else if data[3].toNat > 6 then none
  else
    match Settings.ofBytes (eightBytes data 52) with
    | none => none
    | some (x, capacities) =>
      match descriptorRegions data data[3].toNat with
      | none => none
      | some regions =>
        if allWithin regions capacities && noneOverlap regions then
          some { regions := Vector.ofFn fun n => (regions[n.val]?).getD Region.cleared, settings := x,
                 capacities := capacities }
        else none

/-- What the descriptor store decides (R185, R186, R187). -/
def startupDecision (store : Option PageBytes) : StartupOutcome × Configuration :=
  match store with
  | none => (.defaults, Configuration.defaults)
  | some data =>
    if headerGood data then
      match descriptorConfiguration data with
      | some c => (.good, c)
      | none => (.defaultsFlagged, Configuration.defaults)
    else (.defaults, Configuration.defaults)

/-! ### Installation and the end of start-up (11 section 11.5) -/

/-- A device record takes its installed capacity; one that differs from 2048 pages makes the counter UNKNOWN (R188). -/
def Device.install (x : Device) (c : Capacity) : Device :=
  { x with capacity := c, counter := if c = .pages2048 then x.counter else none }

/-- A configuration is put in force, whole (R188, R189): regions, settings, capacities, the budget count and the
stream's last byte; the store is emptied and the phase becomes DONE. -/
def State.installConfiguration (s : State) (outcome : StartupOutcome) (c : Configuration) : State :=
  { s with
    regions := c.regions
    settings := c.settings
    devices := Vector.ofFn fun d => s.devices[d].install c.capacities[d]
    supply := { s.supply with count := c.settings.budget }
    stream := { s.stream with lastByte := c.settings.fillByte }
    startup := { phase := .done, store := none, outcome := some outcome } }

/-- The part state that start-up ends in (R160, R189). -/
def SupplyState.endsInHoldup : SupplyState → Bool
  | .normal | .sagPending => false
  | .low | .recoverPending => true

/-- Installation and the end of start-up (R188, R189): the part becomes RUNNING and an access held in STARTING is handed
to the Decoder, or it becomes HOLDUP and the access is refused (R160). -/
def State.endStartup (s : State) : State :=
  let (outcome, c) := startupDecision s.startup.store
  let s1 := s.installConfiguration outcome c
  let s2 := if outcome = .defaultsFlagged then s1.raise .descriptor else s1
  if s2.supply.state.endsInHoldup then s2.enterHoldup
  else
    let s3 := { s2 with part := .running }
    if s3.waiting = some .handOff then s3.handOff else s3

/-- Whether a probe is in progress for some device. -/
def State.probing (s : State) : Bool := (List.finRange 4).any fun d => s.devices[d].probe.isSome

/-- The end of PROBE (R184): READ, with the descriptor read requested, where device 0 is READY; the end of start-up
otherwise. -/
def State.endProbePhase (s : State) : State :=
  if s.devices[0].state = .ready then
    { s with startup := { s.startup with phase := .read } }.request
      { kind := .descriptorRead, device := 0, start := Config.descriptorAddress, length := 64 }
  else s.endStartup

/-- Whether the descriptor read is requested or on the link. -/
def State.readingDescriptor (s : State) : Bool := s.requested .descriptorRead 0 || s.onLink .descriptorRead 0

/-! ### Reset (R16, R60, R85, R108, R133, R147, R168, R175, R183) -/

/-- The start of reset: every block takes its reset values and reset is held. The clock, the queue of commands, the level
of FLUSHREQ# and the straps sampled last stay. -/
def State.beginReset (s : State) : State :=
  { State.held with now := s.now, pending := s.pending, flushreqLow := s.flushreqLow, straps := s.straps }

/-- A probe of a device starts (R129): the counter becomes UNKNOWN, and the polls of a STUCK device are set aside. -/
def State.startProbe (s : State) (d : Fin 4) (bound : Time) : State :=
  (s.withdraw .poll d).setDevice d
    { s.devices[d] with
      probe := some { deadline := s.now + bound, selectDue := s.now }
      counter := none
      pollDue := if s.devices[d].state = .stuck then none else s.devices[d].pollDue }

/-- The end of reset (R183, R184, R168): the straps are sampled, the part is STARTING in PROBE, four probes start, and a
supply below the warning level starts the sag filter. -/
def State.endReset (s : State) (style : CycleStyle) (msa belowWarning : Bool) : State :=
  let s1 := { s.beginReset with
    resetHeld := false
    straps := { style := style, msa := msa }
    supply :=
      if belowWarning then
        { State.held.supply with state := .sagPending, sagTimer := some (s.now + Config.filterTime) }
      else State.held.supply }
  (List.finRange 4).foldl (fun s d => s.startProbe d Config.startupProbeBound) s1

end Sys2Proof.Machine
end

