-- ==== Sys2Proof/Machine/Settle.lean ====
section
/-! DEFINITION. The consequences of a command within its step (R73, R76, R77, R79, R81, R53, R104, R138, R184): what the
rules place at the moment its condition comes to hold. One consequence is drawn at a time, in a fixed order, until none
is left (log entry 4). -/
namespace Sys2Proof.Machine

/-- A write held as a cross-generation write is released when its buffer's entry has left (R76), and refused when its
buffer is FAILED or its entry blocked (R77). -/
def State.settleHeldWrite (s : State) (b : Fin 16) : Option State :=
  if Queue.hasEntry s.queue b then
    if s.isFailed b || s.blocked b then some (s.refuse .bufferFailed) else none
  else s.resolveAgain

/-- A write-through access is completed when its entry has left, and refused when its buffer is FAILED (R79). -/
def State.settleWriteThrough (s : State) (b : Fin 16) : Option State :=
  if Queue.hasEntry s.queue b then
    if s.isFailed b then some (s.refuse .bufferFailed) else none
  else some (s.complete 0)

/-- A read whose buffer's fetch is gone without an answer is resolved again (R38). -/
def State.settleFetchRead (s : State) (b : Fin 16) : Option State :=
  if s.buffers[b].fill then none else s.resolveAgain

/-- A demand read is served when a byte is at the head, and refused with the stall when there is none to come (R138,
R139, R141). -/
def State.settleDemandRead (s : State) : Option State :=
  match s.stream.context, s.stream.queue, s.stream.stall with
  | none, _, _ => none
  | some _, [], some x => some (s.refuse x.cause)
  | some _, [], none => none
  | some _, _ :: _, _ => some s.serveStream

/-- What the PENDING access waits on has come about (R76, R77, R79, R38, R138). -/
def State.settleAccess (s : State) : Option State :=
  match s.waiting with
  | some (.crossGeneration b) => s.settleHeldWrite b
  | some (.entry b) => s.settleWriteThrough b
  | some (.fetch b) => s.settleFetchRead b
  | some .streamByte => s.settleDemandRead
  | some .handOff => none
  | some .buffer => none
  | none => none

/-- The pending flush is complete (R81). -/
def State.settleFlush (s : State) : Option State := if s.flushComplete then some s.completeFlush else none

/-- A commit in FILL stops while the budget is spent (R104). -/
def State.settleFill (s : State) : Option State :=
  if s.budgetSpent then ((List.finRange 16).find? fun b => s.engineWaits b).map s.stopCommit else none

/-- One entry of the front generation is taken: an eligible one starts its commit (R71), one that meets the conditions
but for its ABSENT device becomes FAILED (R72); the one nearest the head first. -/
def State.takeEntry (s : State) (b : Fin 16) : State := if s.eligible b then s.startCommit b else s.handOver b

/-- The Scheduler's evaluation (R73). -/
def State.settleQueue (s : State) : Option State :=
  ((Queue.frontBuffers s.queue).find? fun b => s.eligible b || s.meetsButForDevice b).map s.takeEntry

/-- An access that waits for a buffer is resolved again when one is evictable, and refused when none can become so (R53,
R54). -/
def State.settleBufferWait (s : State) : Option State :=
  if s.waiting = some .buffer then
    if s.victim.isSome then s.resolveAgain
    else if s.noBufferTest then some (s.refuse .noBuffer) else none
  else none

/-- Start-up goes on when its probes have ended, and ends when the descriptor read is over (R184, R185, R188). -/
def State.settleStartup (s : State) : Option State :=
  if s.resetHeld then none
  else
    match s.startup.phase with
    | .probe => if s.probing then none else some s.endProbePhase
    | .read => if s.readingDescriptor then none else some s.endStartup
    | .install => some s.endStartup
    | .done => none

/-- The next consequence to draw, if one is left. -/
def State.consequence (s : State) : Option State :=
  s.settleAccess <|> s.settleFlush <|> s.settleFill <|> s.settleQueue <|> s.settleBufferWait <|> s.settleStartup

/-- Drawing at most `n` consequences. -/
def settleFor : Nat → State → State
  | 0, s => s
  | n + 1, s =>
    match s.consequence with
    | none => s
    | some s' => settleFor n s'

/-- All the consequences of a command (log entry 4). -/
def State.settle (s : State) : State := settleFor Config.settleBound s

/-- HOLDUP_SHORT is raised when the short condition has come to hold since `before` (R163, log entry 18). -/
def State.noteShort (s before : State) : State :=
  if s.shortCondition && !before.shortCondition then s.raise .holdupShort else s

/-- The end of every command's step: its consequences are drawn, and the short condition is examined. `before` is the
state the command found. -/
def State.conclude (s before : State) : State := s.settle.noteShort before

end Sys2Proof.Machine
end

