-- ==== Sys2Proof/Machine/Link.lean ====
section
/-! DEFINITION. The Page Link Controller (06): classes and the arbiter, transfers, ends of operations, polls, probes, and
the changes of a device to STUCK and ABSENT. -/
namespace Sys2Proof.Machine

/-! ### Transfers (sections 6.1 and 6.2) -/

/-- The form of an operation's next attempt (R113): a read is a current-address read when the counter is known and
equals its start address. -/
def State.formOf (s : State) (o : Operation) : TransferForm :=
  match o.kind with
  | .program _ => .program
  | .poll => .selectOnly
  | .probeSelect => .selectOnly
  | .pageFetch _ | .streamRead | .checkRead _ | .descriptorRead =>
    if s.devices[o.device].counter = some o.start then .currentRead else .addressedRead

/-- The select byte (R110, 12 section 12.1): prefix 1, 1, 0, device number, 0, device address bit 16, direction. -/
def selectByte (device : Fin 4) (address : Nat) (read : Bool) : Byte :=
  0xC0 ||| byte (device.val * 8) ||| bitAt (address.testBit 16) 1 ||| bitAt read 0

/-- The bytes the KL-416 sends in a transfer (R111–R114): a program's data come from the transmit store copy. In a
current-address read, the select byte carries bit 16 of the counter, which equals the start address. -/
def State.sentBytes (s : State) (o : Operation) (form : TransferForm) : List Byte :=
  let high := byte (o.start / 256)
  let low := byte o.start
  match form with
  | .program =>
    [selectByte o.device o.start false, high, low] ++
      (match s.transmit[o.device] with
        | none => []
        | some t => t.bytes)
  | .addressedRead => [selectByte o.device o.start false, high, low, selectByte o.device o.start true]
  | .currentRead => [selectByte o.device o.start true]
  | .selectOnly => [selectByte o.device 0 false]

/-- How many bytes the KL-416 sends in a transfer of a form. -/
def sentCount (form : TransferForm) (length : Nat) : Nat :=
  match form with
  | .program => 3 + length
  | .addressedRead => 4
  | .currentRead => 1
  | .selectOnly => 1

/-- Clock periods of a whole transfer (R109): 9 a byte, and one for each start, repeated start and stop. -/
def transferPeriods (form : TransferForm) (length : Nat) : Nat :=
  match form with
  | .program => (3 + length) * Config.periodsPerByte + 2
  | .addressedRead => (4 + length) * Config.periodsPerByte + 3
  | .currentRead => (1 + length) * Config.periodsPerByte + 2
  | .selectOnly => Config.periodsPerByte + 2

/-- Clock periods of a transfer broken off at sent byte `i` (R109): the bytes so far, a start, a stop, and the repeated
start where the byte came after it. -/
def brokenPeriods (form : TransferForm) (i : Nat) : Nat :=
  (i + 1) * Config.periodsPerByte + 2 + (if form = .addressedRead ∧ i = 3 then 1 else 0)

/-- The clock at the end of the attempt on the link (log entry 11). -/
def LinkOperation.endTime (l : LinkOperation) : Time :=
  l.attemptStart + transferPeriods l.form l.operation.length * Config.plcPeriod

/-! ### The arbiter (section 6.6) -/

/-- The classes, in the arbiter's order. -/
inductive LinkClass where
  | demand | poll | commit | prefetch | probe
  deriving DecidableEq, Repr

/-- The class of an operation as the arbiter finds it (R40, R124): DEMAND while the host access is held on it. -/
def State.classOf (s : State) (o : Operation) : LinkClass :=
  match o.kind with
  | .pageFetch b => if s.waiting = some (.fetch b) then .demand else .commit
  | .streamRead => if s.waiting = some .streamByte then .demand else .prefetch
  | .program _ => .commit
  | .checkRead _ => .commit
  | .descriptorRead => .demand
  | .poll => .poll
  | .probeSelect => .probe

/-- Whether the arbiter may start an operation (R124): nothing but a poll for a PROGRAMMING device, nothing but the probe
select for a device with a probe in progress, and otherwise a READY device's operations (R115). -/
def State.mayStart (s : State) (o : Operation) : Bool :=
  let d := s.devices[o.device]
  match o.kind with
  | .poll => d.probe.isNone
  | .probeSelect => d.probe.isSome && decide (d.state ≠ .programming)
  | .pageFetch _ | .streamRead | .program _ | .checkRead _ | .descriptorRead =>
    decide (d.state = .ready) && d.probe.isNone

/-- The rank of an operation within its class, lowest first (R124): a poll by its due time and then its device number, a
COMMIT operation by the place of its buffer's entry, a probe select by its device number. The due time of a poll is that of
its device record as it stands, also where R121 has moved it while the poll waits: DESIGN CHOICE, log entry 30. -/
def State.rankOf (s : State) (o : Operation) : Nat :=
  match o.kind with
  | .poll => (s.devices[o.device].pollDue.getD 0) * 4 + o.device.val
  | .pageFetch b | .program b | .checkRead b => (Queue.position s.queue b).getD 255
  | .probeSelect => o.device.val
  | .streamRead | .descriptorRead => 0

/-- The operation of least rank, the first of equals. -/
def leastRank (rank : Operation → Nat) : List Operation → Option Operation
  | [] => none
  | o :: rest =>
    match leastRank rank rest with
    | none => some o
    | some o' => if rank o ≤ rank o' then some o else some o'

/-- The operation of a class that the arbiter takes, if the class holds one it may start (R124). -/
def State.chooseIn (s : State) (c : LinkClass) : Option Operation :=
  leastRank s.rankOf (s.requests.filter fun o => decide (s.classOf o = c) && s.mayStart o)

/-- The arbiter's choice: the first class that holds an operation it may start (R124). -/
def State.choose (s : State) : Option Operation :=
  s.chooseIn .demand <|> s.chooseIn .poll <|> s.chooseIn .commit <|> s.chooseIn .prefetch <|> s.chooseIn .probe

/-- The arbiter hands the idle link to its choice (R124); a busy link is left alone. -/
def State.arbiterStart (s : State) : State :=
  match s.link, s.choose with
  | none, some o =>
    { s with
      requests := s.requests.erase o
      link := some { operation := o, form := s.formOf o, attempts := 1, selectErrors := 0, attemptStart := s.now,
                     hasRequester := true, counterLost := false } }
  | _, _ => s

/-! ### Ends of transfers -/

/-- The link falls free at the end of the attempt on it (R117). -/
def State.freeLink (s : State) (l : LinkOperation) : State := { s.advanceTo l.endTime with link := none }

/-- The address counter after a completed transfer (R116), unless a capacity change keeps it UNKNOWN (R31). -/
def State.moveCounter (s : State) (l : LinkOperation) (address : Nat) : State :=
  let d := l.operation.device
  if l.counterLost then s.setDevice d { s.devices[d] with counter := none }
  else s.setDevice d (s.devices[d].moveCounter address)

/-- The counter after a read of the operation's bytes (R116). -/
def State.readEndAddress (s : State) (o : Operation) : Nat := (o.start + o.length) % s.devices[o.device].bytes

/-- The counter after a program of the operation's bytes (R116): it rolls over within the page. -/
def programEndAddress (o : Operation) : Nat := o.start / 64 * 64 + (o.start % 64 + o.length) % 64

/-- A page fetch of `b` completes (R41): the bytes are merged, a read waiting on it is answered (R47), and a commit in
FILL enters SEND (R89). -/
def State.fetchComplete (s : State) (b : Fin 16) (data : PageBytes) : State :=
  let s1 := s.setBuffer b (s.buffers[b].merge data)
  let s2 :=
    match s.waiting, s.accessDecode with
    | some (.fetch b'), some d => if b' = b then s1.answerRead b d else s1
    | _, _ => s1
  if s2.engineWaits b then s2.enterSend b else s2

/-- A page fetch of `b` fails (R42): the fill flag is cleared, a read waiting on it is refused with the cause (R47), a
commit in FILL counts the failure (R90), and a buffer with nothing valid is freed. -/
def State.fetchFailed (s : State) (b : Fin 16) (x : Stall) : State :=
  let s1 := s.setBuffer b { s.buffers[b] with fill := false }
  let s2 := if s.waiting = some (.fetch b) then s1.refuse x.cause else s1
  let s3 := if s2.engineWaits b then s2.fillFailed b else s2
  s3.freeIfUnknown b

/-- The final failure of an operation is reported to its requester (R117, R118). The Sequencer finds its descriptor read
over, with an empty store (R185). -/
def State.operationFailed (s : State) (l : LinkOperation) (x : Stall) : State :=
  match l.operation.kind with
  | .pageFetch b => if l.hasRequester then s.fetchFailed b x else s
  | .streamRead => s.burstFailed x
  | .program b => if s.inStage b .send then s.sendFailed b else s
  | .checkRead b => if s.inStage b .check then s.checkFailed b else s
  | .descriptorRead => s
  | .poll => s
  | .probeSelect => s

/-! ### A device becoming STUCK or ABSENT (R123, R128) -/

/-- One operation that has left the request set unstarted is ended, its device no longer reachable (R123): a fetch fails
with cause DEVICE for a held read, and a commit that waited on it, or whose program or CHECK read it was, ends DIRTY
(R101); a stream read fails with cause DEVICE; a probe select leaves the set, and its probe goes on (log entry 13). -/
def State.endOperation (s : State) (o : Operation) : State :=
  match o.kind with
  | .pageFetch b =>
    let s1 := s.cancelFetch b
    let s2 := if s.waiting = some (.fetch b) then s1.refuse .device else s1
    let s3 := if s2.engineWaits b then s2.endDirty b else s2
    s3.freeIfUnknown b
  | .streamRead => (s.withdraw .streamRead o.device).burstFailed .device
  | .program b => if s.inStage b .send then s.endDirty b else s.withdraw (.program b) o.device
  | .checkRead b => if s.inStage b .check then s.endDirty b else s.withdraw (.checkRead b) o.device
  | .descriptorRead => s.withdraw .descriptorRead o.device
  | .poll => s
  | .probeSelect => s.withdraw .probeSelect o.device

/-- Every operation for a device that is in the request set and not started is ended, except its poll (R123). -/
def State.endOperations (s : State) (d : Fin 4) : State :=
  (s.requests.filter fun o => decide (o.device = d)).foldl (fun s o => s.endOperation o) s

/-- A device record becomes STUCK (R118, R121): polled 10 ms later, DEVICE_FAULT raised. Its address counter is UNKNOWN, as
R118 says after the failed operation; that it becomes so at the program timeout too is read from R122, by which it "stays
UNKNOWN", since the table of R116 lists no change there: DEDUCED, log entry 29. -/
def State.deviceStuck (s : State) (d : Fin 4) : State :=
  (s.setDevice d
    { s.devices[d] with
      state := .stuck, counter := none, timeout := none, pollDue := some (s.now + Config.stuckPollInterval)
      }).raise .deviceFault

/-- A commit of a device that has become ABSENT ends with its buffer DIRTY (R128). -/
def State.endCommitOf (s : State) (d : Fin 4) (b : Fin 16) : State :=
  if s.buffers[b].state = .committing ∧ s.deviceOfBuffer b = some d then s.endDirty b else s

/-- A CLEAN buffer tagged with a device that has become ABSENT is freed, pinned or not (R128). -/
def State.freeCleanOf (s : State) (d : Fin 4) (b : Fin 16) : State :=
  if s.buffers[b].state = .clean ∧ s.deviceOfBuffer b = some d then s.freeBuffer b else s

/-- A probe ends with the device ABSENT (R128, R129): DEVICE_FAULT where it was READY or STUCK; its operations are ended,
its commits end DIRTY, and its CLEAN buffers are freed. The Scheduler's evaluation is among the step's consequences. -/
def State.deviceAbsent (s : State) (d : Fin 4) : State :=
  let s1 := if s.devices[d].state = .absent then s else s.raise .deviceFault
  let s2 := ((s1.withdraw .probeSelect d).withdraw .poll d).setDevice d
    { s.devices[d] with state := .absent, counter := none, pollDue := none, timeout := none, probe := none }
  let s3 := s2.endOperations d
  let s4 := (List.finRange 16).foldl (fun s b => s.endCommitOf d b) s3
  (List.finRange 16).foldl (fun s b => s.freeCleanOf d b) s4

/-! ### Transfer errors (R118) -/

/-- The operation on the link after a broken attempt: the next attempt, built afresh with the counter UNKNOWN (R113). It is
a transfer of its own, so a capacity change during the broken one does not bear on its end (R31). -/
def State.nextAttempt (s : State) (l : LinkOperation) (selectErrors : Nat) : State :=
  { s with link := some { l with
      form := s.formOf l.operation, attempts := l.attempts + 1, selectErrors := selectErrors, attemptStart := s.now,
      counterLost := false } }

/-- The third attempt has failed as well (R118): all three at the select byte make a READY device STUCK, and the
operation fails with cause DEVICE; otherwise it fails with FETCH_FAILED. An ABSENT device stays so (log entry 14). -/
def State.lastAttemptFailed (s : State) (l : LinkOperation) (selectErrors : Nat) : State :=
  let d := l.operation.device
  let s1 := { s with link := none }
  if selectErrors = Config.transferAttempts then
    if s.devices[d].state = .absent then s1.operationFailed l .device
    else ((s1.deviceStuck d).operationFailed l .device).endOperations d
  else s1.operationFailed l .fetchFailed

/-- A transfer attempt ends in a transfer error at sent byte `i` (R109, R118): the counter is UNKNOWN (R116), and the
next attempt follows at once, or the operation fails. -/
def State.transferBroken (s : State) (l : LinkOperation) (i : Nat) : State :=
  let d := l.operation.device
  let s1 := s.advanceTo (l.attemptStart + brokenPeriods l.form i * Config.plcPeriod)
  let s2 := s1.setDevice d { s1.devices[d] with counter := none }
  let selectErrors := if i = 0 then l.selectErrors + 1 else l.selectErrors
  if l.attempts < Config.transferAttempts then s2.nextAttempt l selectErrors
  else s2.lastAttemptFailed l selectErrors

/-! ### Polls (section 6.5) -/

/-- A poll of device `d` is acknowledged (R120, R121, R122): a PROGRAMMING or STUCK device becomes READY, and a commit in
BUSY goes on. The address counter of a device that was STUCK is UNKNOWN (R122, log entry 29). -/
def State.pollAcknowledged (s : State) (d : Fin 4) : State :=
  match s.devices[d].state with
  | .programming =>
    let s1 := s.setDevice d { s.devices[d] with state := .ready, pollDue := none, timeout := none }
    match s.committingIn d .busy with
    | some b => s1.endBusy b
    | none => s1
  | .stuck => s.setDevice d { s.devices[d] with state := .ready, counter := none, pollDue := none }
  | .ready => s
  | .absent => s

/-- A poll of device `d` is refused (R120, R122): the next due time, unless a probe of a STUCK device is in progress
(R129). -/
def State.pollRefused (s : State) (d : Fin 4) : State :=
  match s.devices[d].state with
  | .programming => s.setDevice d { s.devices[d] with pollDue := some (s.now + Config.pollInterval) }
  | .stuck =>
    s.setDevice d { s.devices[d] with
      pollDue := if s.devices[d].probe.isSome then none else some (s.now + Config.stuckPollInterval) }
  | .ready => s
  | .absent => s

/-- The timeout deadline of a PROGRAMMING device passes (R121, R96): STUCK, and the buffer in BUSY becomes FAILED. -/
def State.programTimedOut (s : State) (d : Fin 4) : State :=
  let s1 := s.deviceStuck d
  let s2 :=
    match s.committingIn d .busy with
    | some b => s1.becomeFailed b
    | none => s1
  s2.endOperations d

end Sys2Proof.Machine
end

