-- ==== Sys2Proof/Machine/Management.lean ====
section
/-! DEFINITION. The management link block (10): the space as it is read, the entry shadow, the applies and the
commands. -/
namespace Sys2Proof.Machine

/-! ### The space as it is read (10 section 10.3, 12 section 12.4) -/

/-- The number of buffers in a state (R58). -/
def State.bufferCount (s : State) (x : BufferState) : Nat :=
  (List.finRange 16).countP fun b => decide (s.buffers[b].state = x)

/-- Entry 16, the device records. -/
def State.deviceBytes (s : State) : Vector Byte 8 :=
  Vector.ofFn fun i => (s.devices[i.val / 2]'(by omega)).toBytes[i.val % 2]

/-- Entry 18, the event flags. -/
def State.flagBytes (s : State) : Vector Byte 8 :=
  #v[s.flags.extractLsb' 0 8, s.flags.extractLsb' 8 8, 0, 0, 0, 0, 0, 0]

/-- Entry 20, the pool summary (R58). -/
def State.poolSummary (s : State) : Vector Byte 8 :=
  #v[byte (s.bufferCount .free), byte (s.bufferCount .clean), byte (s.bufferCount .dirty),
     byte (s.bufferCount .committing), byte (s.bufferCount .failed), byte s.queue.length,
     byte (Queue.markerCount s.queue), byte s.part.code]

/-- The status bytes of a buffer (R59). -/
def State.bufferStatus (s : State) (b : Fin 16) : Vector Byte 4 :=
  s.buffers[b].toBytes (Queue.position s.queue b)

/-- Entry 21 + k, the status of buffers 2k and 2k + 1. -/
def State.statusBytes (s : State) (k : Fin 8) : Vector Byte 8 :=
  Vector.ofFn fun i => (s.bufferStatus ⟨2 * k.val + i.val / 4, by omega⟩)[i.val % 4]'(by omega)

/-- Entry 31, the command entry. -/
def State.commandBytes (s : State) : Vector Byte 8 :=
  #v[s.management.code, s.management.argument, byte s.management.commandStatus.code,
     byte s.management.applyStatus.code, 0, 0, 0, 0]

/-- The live bytes of an entry (section 10.1). Entry 30 reads 0x00. -/
def State.entryBytes (s : State) (e : Fin 32) : Vector Byte 8 :=
  if h : e.val < 8 then s.regions[e.val].toBytes
  else if h : e.val < 16 then s.watches[e.val - 8].toBytes
  else if e.val = 16 then s.deviceBytes
  else if e.val = 17 then s.settings.toBytes s.capacities
  else if e.val = 18 then s.flagBytes
  else if e.val = 19 then s.port.fault.toBytes
  else if e.val = 20 then s.poolSummary
  else if h : e.val < 29 then s.statusBytes ⟨e.val - 21, by omega⟩
  else if e.val = 29 then identification
  else if e.val = 31 then s.commandBytes
  else Vector.replicate 8 0

/-- The entry that holds a space address. -/
def entryOf (a : BitVec 8) : Fin 32 := ⟨a.toNat / 8, by omega⟩

/-- The offset of a space address within its entry. -/
def offsetOf (a : BitVec 8) : Fin 8 := ⟨a.toNat % 8, by omega⟩

/-- The live value at a space address (R174). -/
def State.spaceByte (s : State) (a : BitVec 8) : Byte := (s.entryBytes (entryOf a))[offsetOf a]

/-! ### Transactions (10 section 10.2) -/

/-- The management block's record is replaced. -/
def State.setManagement (s : State) (m : Management) : State := { s with management := m }

/-- The target address the part answers, in seven bits (R169). -/
def Straps.target (x : Straps) : Nat := if x.msa then 0x5D else 0x5C

/-- A start or repeated start and its address byte open a transaction (R169). -/
def State.openTransaction (s : State) (v : Byte) : State :=
  if v.toNat / 2 = s.straps.target ∧ s.part ≠ .starting then
    s.setManagement { s.management with
      transaction := if v.getLsbD 0 then .addressedRead false else .addressedWrite false
      shadow := none, ackDriven := true, sent := none }
  else
    s.setManagement { s.management with transaction := .ignoring, shadow := none, ackDriven := false, sent := none }

/-- The pointer byte of a write transaction (R170). -/
def State.takePointer (s : State) (v : Byte) : State :=
  match s.management.transaction with
  | .addressedWrite false =>
    s.setManagement { s.management with transaction := .addressedWrite true, pointer := v, ackDriven := true }
  | .addressedWrite true => s
  | .idle => s
  | .addressedRead _ => s
  | .ignoring => s

/-- The shadow as the first data byte loads it (R170). -/
def State.loadShadow (s : State) : Shadow :=
  { entry := entryOf s.management.pointer, bytes := s.entryBytes (entryOf s.management.pointer), written := 0 }

/-- A data byte goes into the shadow at the pointer's offset (R170). -/
def Shadow.write (x : Shadow) (offset : Fin 8) (v : Byte) : Shadow :=
  { x with bytes := x.bytes.set offset v, written := x.written ||| BitVec.twoPow 8 offset.val }

/-- The next offset of the same entry, 7 followed by 0 (R170). -/
def nextInEntry (a : BitVec 8) : BitVec 8 := BitVec.ofNat 8 (a.toNat / 8 * 8 + (a.toNat % 8 + 1) % 8)

/-- A data byte of a write transaction (R170). -/
def State.takeData (s : State) (v : Byte) : State :=
  match s.management.transaction with
  | .addressedWrite true =>
    let x := s.management.shadow.getD s.loadShadow
    s.setManagement { s.management with
      shadow := some (x.write (offsetOf s.management.pointer) v)
      pointer := nextInEntry s.management.pointer, ackDriven := true }
  | .addressedWrite false => s
  | .idle => s
  | .addressedRead _ => s
  | .ignoring => s

/-- A byte of a read transaction is sent (R174); a byte left unacknowledged releases MLD. -/
def State.sendByte (s : State) (acknowledged : Bool) : State :=
  match s.management.transaction with
  | .addressedRead false =>
    s.setManagement { s.management with
      transaction := .addressedRead (!acknowledged)
      pointer := s.management.pointer + 1, sent := some (s.spaceByte s.management.pointer) }
  | .addressedRead true => s
  | .addressedWrite _ => s
  | .idle => s
  | .ignoring => s

/-! ### Applies (R171, R172) -/

/-- The applies that the table lists as rows: by the entry of the shadow and, for entry 31, by the code written. -/
inductive ApplyKind where
  | region (n : Fin 8)
  | watch (n : Fin 8)
  | settings
  | eventFlagClear
  | faultRecordEmpty
  | readOnly
  | argumentStore
  | flush | barrier | retry | discard | dropClean | reprobe | unknown
  deriving DecidableEq, Repr

/-- The command a code names (12 section 12.5). -/
def commandOf (code : Byte) : ApplyKind :=
  if code = 0x01 then .flush
  else if code = 0x02 then .barrier
  else if code = 0x03 then .retry
  else if code = 0x04 then .discard
  else if code = 0x05 then .dropClean
  else if code = 0x06 then .reprobe
  else .unknown

/-- Whether a shadow's transaction wrote an offset. -/
def Shadow.wrote (x : Shadow) (offset : Nat) : Bool := x.written.getLsbD offset

/-- Which apply a shadow calls for (R172, R176, R177). -/
def Shadow.kind (x : Shadow) : ApplyKind :=
  if h : x.entry.val < 8 then .region ⟨x.entry.val, h⟩
  else if h : x.entry.val < 16 then .watch ⟨x.entry.val - 8, by omega⟩
  else if x.entry.val = 17 then .settings
  else if x.entry.val = 18 then .eventFlagClear
  else if x.entry.val = 19 then .faultRecordEmpty
  else if x.entry.val = 31 then (if x.wrote 0 then commandOf x.bytes[0] else .argumentStore)
  else .readOnly

/-- The apply status is set (R172). -/
def State.applied (s : State) (x : ApplyStatus) : State :=
  s.setManagement { s.management with applyStatus := x }

/-- The command status is set (R177). -/
def State.commanded (s : State) (x : CommandStatus) : State :=
  s.setManagement { s.management with commandStatus := x }

/-- A region entry is taken or refused (R25). -/
def State.applyRegion (s : State) (n : Fin 8) (x : Shadow) : State :=
  match s.checkRegion n x.bytes with
  | .ok r => { s with regions := s.regions.set n r }.applied .accepted
  | .error status => s.applied status

/-- A watch entry is taken or refused (R146). -/
def State.applyWatch (s : State) (n : Fin 8) (x : Shadow) : State :=
  match Watch.ofBytes x.bytes with
  | some w => { s with watches := s.watches.set n (s.watches[n].apply w) }.applied .accepted
  | none => s.applied .value

/-- A CLEAN, unpinned buffer of a device whose page is at or above a new capacity is freed (R31). -/
def State.freeBeyond (s : State) (d : Fin 4) (c : Capacity) (b : Fin 16) : State :=
  if s.buffers[b].state = .clean ∧ s.buffers[b].fill = false ∧
      s.buffers[b].tag.any (fun t => decide (t.device = d) && decide (t.page ≥ c.pages)) = true
  then s.freeBuffer b else s

/-- The link keeps the counter of a device UNKNOWN at the end of the transfer on it (R31). -/
def State.loseCounter (s : State) (d : Fin 4) : State :=
  match s.link with
  | none => s
  | some l => if l.operation.device = d then { s with link := some { l with counterLost := true } } else s

/-- The stream of a device whose capacity changes becomes IDLE, and a demand read on it is refused DEVICE (R143). -/
def State.streamCapacityChange (s : State) (d : Fin 4) : State :=
  if s.stream.context.any (fun c => decide (c.device = d)) then
    (if s.waiting = some .streamByte then s.refuse .device else s).streamIdle
  else s

/-- An accepted capacity change of a device (R31, R143). -/
def State.changeCapacity (s : State) (d : Fin 4) (c : Capacity) : State :=
  let s1 := (s.setDevice d { s.devices[d] with capacity := c, counter := none }).loseCounter d
  let s2 := (List.finRange 16).foldl (fun s b => s.freeBeyond d c b) s1
  s2.streamCapacityChange d

/-- The budget count after an accepted apply of the setting (R161). -/
def State.countAfterApply (s : State) (budget : Nat) : Nat :=
  if s.part = .holdup then min s.supply.count budget else budget

/-- The settings are put into force (R173), and each changed capacity takes effect. -/
def State.installSettings (s : State) (x : Settings) (new : Vector Capacity 4) : State :=
  let s1 := { s with settings := x, supply := { s.supply with count := s.countAfterApply x.budget } }
  (List.finRange 4).foldl (fun s d => if s.capacityChanged new d then s.changeCapacity d new[d] else s) s1

/-- Entry 17 is taken or refused (R30, R173). -/
def State.applySettings (s : State) (x : Shadow) : State :=
  match s.checkSettings x.bytes with
  | .ok (new, capacities) => (s.installSettings new capacities).applied .accepted
  | .error status => s.applied status

/-- The ones that a transaction wrote into entry 18: bytes not written clear nothing (R179). -/
def Shadow.clearedFlags (x : Shadow) : BitVec 16 :=
  (if x.wrote 1 then x.bytes[1] else 0#8) ++ (if x.wrote 0 then x.bytes[0] else 0#8)

/-- The written bytes of code and argument are taken into entry 31 (R176). -/
def State.takeCommandBytes (s : State) (x : Shadow) : State :=
  s.setManagement { s.management with
    code := if x.wrote 0 then x.bytes[0] else s.management.code
    argument := if x.wrote 1 then x.bytes[1] else s.management.argument
    applyStatus := .accepted }

/-! ### Commands (R177) -/

/-- The buffer that the argument names, if it is FAILED (R105, R106). -/
def State.failedArgument (s : State) : Option (Fin 16) :=
  if h : s.management.argument.toNat < 16 then
    if s.isFailed ⟨s.management.argument.toNat, h⟩ then some ⟨s.management.argument.toNat, h⟩ else none
  else none

/-- RETRY (R105): the FAILED buffer becomes DIRTY with attempts 0, and its entry is given PUSH. -/
def State.retryCommand (s : State) : State :=
  match s.failedArgument with
  | some b =>
    ((s.setBuffer b { s.buffers[b] with state := .dirty, attempts := 0 }).givePush b).commanded .done
  | none => s.commanded .refused

/-- DISCARD (R106): the FAILED buffer is freed and its entry removed; its page is passed to the Window. -/
def State.discardCommand (s : State) : State :=
  match s.failedArgument with
  | some b =>
    let s1 := match s.buffers[b].tag with
      | some t => s.streamDiscarded t.device t.page
      | none => s
    (s1.freeBuffer b).commanded .done
  | none => s.commanded .refused

/-- The device that the argument names, if REPROBE may probe it (R130): no COMMITTING buffer, no probe in progress. -/
def State.reprobeArgument (s : State) : Option (Fin 4) :=
  if h : s.management.argument.toNat < 4 then
    if !s.deviceCommitting ⟨s.management.argument.toNat, h⟩ &&
        s.devices[s.management.argument.toNat].probe.isNone
    then some ⟨s.management.argument.toNat, h⟩ else none
  else none

/-- REPROBE (R130): a probe starts, with the program timeout setting as its bound (R129). -/
def State.reprobeCommand (s : State) : State :=
  match s.reprobeArgument with
  | some d => (s.startProbe d (s.settings.programTimeout * Config.millisecond)).commanded .done
  | none => s.commanded .refused

/-- The apply of a shadow (R172): the owner of the entry takes it or refuses it. -/
def State.applyShadow (s : State) (x : Shadow) : State :=
  match x.kind with
  | .region n => s.applyRegion n x
  | .watch n => s.applyWatch n x
  | .settings => s.applySettings x
  | .eventFlagClear => (s.clearFlags x.clearedFlags).applied .accepted
  | .faultRecordEmpty => { s with port := { s.port with fault := FaultRecord.empty } }.applied .accepted
  | .readOnly => s.applied .readOnly
  | .argumentStore => s.takeCommandBytes x
  | .flush => ((s.takeCommandBytes x).flushRequest).commanded .done
  | .barrier => ((s.takeCommandBytes x).barrierRequest).commanded .done
  | .retry => (s.takeCommandBytes x).retryCommand
  | .discard => (s.takeCommandBytes x).discardCommand
  | .dropClean => ((s.takeCommandBytes x).dropClean).commanded .done
  | .reprobe => (s.takeCommandBytes x).reprobeCommand
  | .unknown => (s.takeCommandBytes x).commanded .unknown

/-- The shadow that the end of the open transaction applies (R171): that of a write transaction with a data byte. -/
def State.pendingShadow (s : State) : Option Shadow :=
  match s.management.transaction with
  | .addressedWrite true => s.management.shadow
  | .addressedWrite false => none
  | .idle => none
  | .addressedRead _ => none
  | .ignoring => none

/-- The transaction closes; the pointer keeps its value (R171). -/
def State.closeTransaction (s : State) : State :=
  s.setManagement { s.management with transaction := .idle, shadow := none }

/-- A stop condition or repeated start ends the open transaction: an unapplied shadow is applied (R171). -/
def State.endTransaction (s : State) : State :=
  match s.pendingShadow with
  | some x => (s.applyShadow x).closeTransaction
  | none => s.closeTransaction

end Sys2Proof.Machine
end

