-- ==== Sys2Proof/Machine/HostBus.lean ====
section
/-! DEFINITION. The meanings of the host bus rows: HOST_ACCESS_START, HOST_ACCESS_END, WAIT_DEADLINE, HOLD_DEADLINE. -/
namespace Sys2Proof.Machine

/-- A command acts unless reset is held (R16, R133, R175), and its consequences are drawn. -/
def State.act (s : State) (f : State → State) : Result := if s.resetHeld then .next s else .next ((f s).conclude s)

/-- The direction of the access that an edge starts in a cycle style (section 1.1, R2); no edge of the other style's
meaning starts one. -/
def activeDirection : CycleStyle → ActiveEdge → Option Direction
  | .strobePair, .rdsFall => some .read
  | .strobePair, .wrsFall => some .write
  | .strobePair, .enRise _ => none
  | .enable, .enRise rwHigh => some (if rwHigh then .read else .write)
  | .enable, .rdsFall => none
  | .enable, .wrsFall => none

/-- Whether an edge ends an access of a direction (R13, section 1.1): CE# rising, the rising edge of the same strobe, or
the falling edge of EN. -/
def endsAccess : CycleStyle → Direction → EndEdge → Bool
  | _, _, .ceRise => true
  | .strobePair, .read, .rdsRise => true
  | .strobePair, .write, .wrsRise => true
  | .strobePair, .read, .wrsRise => false
  | .strobePair, .write, .rdsRise => false
  | .strobePair, _, .enFall => false
  | .enable, _, .enFall => true
  | .enable, _, .rdsRise => false
  | .enable, _, .wrsRise => false

/-- The hold deadline of an access that starts now (R12); absent when the hold limit is 0. -/
def State.holdDeadlineNow (s : State) : Option Time :=
  if s.settings.holdLimit = 0 then none else some (s.now + s.settings.holdLimit * Config.millisecond)

/-- The access record at its active edge (R4): PENDING, not yet handed off. -/
def State.newAccess (s : State) (dir : Direction) (address : HostAddress) : Access :=
  { direction := dir, address := address, writeByte := none, decode := none, edgeTime := s.now, waitDeadline := s.now,
    holdDeadline := s.holdDeadlineNow, status := .pending .handOff }

/-- An access starts (R3, R4): the record is filled, the write latch follows D7–D0 for a write, the read byte register
takes the fill byte for a read. -/
def State.startAccess (s : State) (dir : Direction) (address : HostAddress) (data : Byte) : State :=
  { s with port := { s.port with
      access := some (s.newAccess dir address)
      writeLatch := if dir = .write then data else s.port.writeLatch
      readByte := if dir = .read then s.settings.fillByte else s.port.readByte } }

/-- What the part state does with an access that starts (R4, R14, R15). -/
def State.receive (s : State) : State :=
  match s.part with
  | .running => s.handOff
  | .starting => s
  | .holdup => s.refuse .holdup

/-- HOST_ACCESS_START (R1, R2, R4): an active edge with CE# low and the Port IDLE. -/
def execHostAccessStart (edge : ActiveEdge) (ceLow : Bool) (address : HostAddress) (data : Byte) (s : State) : Result :=
  s.act fun s =>
    match s.port.access, activeDirection s.straps.style edge with
    | none, some dir => if ceLow then (s.startAccess dir address data).receive else s
    | _, _ => s

/-- HOST_ACCESS_END (R13): a DONE access ends with its outcome; a PENDING one is withdrawn, and its owner hears. -/
def execHostAccessEnd (edge : EndEdge) (s : State) : Result :=
  s.act fun s =>
    match s.port.access with
    | none => s
    | some a =>
      if endsAccess s.straps.style a.direction edge then s.ownerHears.setAccess none else s

/-- WAIT_DEADLINE (R5): the wait deadline of the access in progress passes. -/
def execWaitDeadline (s : State) : Result :=
  s.act fun s =>
    match s.port.access with
    | none => s
    | some a => s.advanceTo a.waitDeadline

/-- HOLD_DEADLINE (R12): the hold deadline passes while the Port is PENDING. -/
def execHoldDeadline (s : State) : Result :=
  s.act fun s =>
    match s.waiting, s.port.access.bind (·.holdDeadline) with
    | some _, some t => (s.advanceTo t).portRefuses .holdLimit
    | _, _ => s

end Sys2Proof.Machine
end

