-- ==== Sys2Proof/Machine/Commits.lean ====
section
/-! DEFINITION. The meanings of the Scheduler's and the Engine's rows: COMMIT_START, ABSENT_HANDOVER, AGE_DEADLINE,
FLUSHREQ_FALL, FLUSHREQ_RISE. -/
namespace Sys2Proof.Machine

/-- The eligible entry of `b`'s device that is nearest the head (R71). -/
def State.nearestEligible (s : State) (b : Fin 16) : Option (Fin 16) :=
  (Queue.frontBuffers s.queue).find? fun b' => s.eligible b' && decide (s.deviceOfBuffer b' = s.deviceOfBuffer b)

/-- COMMIT_START (R71, R86): the commit of an eligible entry starts. -/
def execCommitStart (b : Fin 16) (s : State) : Result :=
  s.act fun s => if s.nearestEligible b = some b then s.startCommit b else s

/-- ABSENT_HANDOVER (R72, R87): an entry that meets the conditions but for its ABSENT device becomes FAILED. -/
def execAbsentHandover (b : Fin 16) (s : State) : Result :=
  s.act fun s => if s.meetsButForDevice b then s.handOver b else s

/-- The age deadline of `b` passes (R68): the entry is given AGED, and the deadline becomes absent. -/
def State.ageExpired (s : State) (b : Fin 16) : State :=
  { s.setBuffer b { s.buffers[b] with ageDeadline := none } with queue := Queue.giveAged s.queue b }

/-- AGE_DEADLINE (R68). -/
def execAgeDeadline (b : Fin 16) (s : State) : Result :=
  s.act fun s =>
    match s.buffers[b].ageDeadline with
    | none => s
    | some t => (s.advanceTo t).ageExpired b

/-- FLUSHREQ_FALL (R80): a flush request; while reset is held the edge makes none, and a line already low none. -/
def execFlushreqFall (s : State) : Result :=
  if s.resetHeld then .next { s with flushreqLow := true }
  else s.act fun s => if s.flushreqLow then s else { s with flushreqLow := true }.flushRequest

/-- FLUSHREQ_RISE (R80): the next falling edge can make a request. -/
def execFlushreqRise (s : State) : Result := .next { s with flushreqLow := false }

end Sys2Proof.Machine
end

