-- ==== Sys2Proof/Machine/PageLink.lean ====
section
/-! DEFINITION. The meanings of the page link's rows: the arbiter's step, the ends of transfers, polls, probes. -/
namespace Sys2Proof.Machine

/-- ARBITER_START (R124). -/
def execArbiterStart (s : State) : Result := s.act State.arbiterStart

/-- The link with a read of a kind completed on it (R116, R117): the link free, the counter moved. -/
def State.readCompleted (s : State) (l : LinkOperation) : State :=
  (s.freeLink l).moveCounter l (s.readEndAddress l.operation)

/-- PAGE_FETCH_COMPLETE (R41, R117): merged and answered; the data of a fetch whose buffer was freed are dropped (R38). -/
def execPageFetchComplete (data : PageBytes) (s : State) : Result :=
  s.act fun s =>
    match s.link with
    | none => s
    | some l =>
      match l.operation.kind with
      | .pageFetch b =>
        if l.hasRequester then (s.readCompleted l).fetchComplete b data else s.readCompleted l
      | .streamRead | .program _ | .checkRead _ | .descriptorRead | .poll | .probeSelect => s

/-- TRANSFER_ERROR (R109, R118): byte `byteIndex` of those sent was left unacknowledged. The answers of polls and probe
selects are no transfer errors (R114). -/
def execTransferError (byteIndex : Nat) (s : State) : Result :=
  s.act fun s =>
    match s.link with
    | none => s
    | some l =>
      match l.operation.kind with
      | .poll | .probeSelect => s
      | .pageFetch _ | .streamRead | .program _ | .checkRead _ | .descriptorRead =>
        if byteIndex < sentCount l.form l.operation.length then s.transferBroken l byteIndex else s

/-- A program operation of `b` has completed on device `d` (R93, R120): BUSY, PROGRAMMING, with both deadlines. -/
def State.enterBusy (s : State) (b : Fin 16) (d : Fin 4) : State :=
  ((s.setBuffer b { s.buffers[b] with stage := some .busy }).setDevice d
    { s.devices[d] with
      state := .programming, pollDue := some (s.now + Config.pollInterval)
      timeout := some (s.now + s.settings.programTimeout * Config.millisecond) }).releaseSpan d

/-- PROGRAM_COMPLETE (R93). -/
def execProgramComplete (s : State) : Result :=
  s.act fun s =>
    match s.link with
    | none => s
    | some l =>
      match l.operation.kind with
      | .program b =>
        let s1 := (s.freeLink l).moveCounter l (programEndAddress l.operation)
        if s1.inStage b .send then s1.enterBusy b l.operation.device else s1
      | .pageFetch _ | .streamRead | .checkRead _ | .descriptorRead | .poll | .probeSelect => s

/-- CHECK_READ_COMPLETE (R97, R98). -/
def execCheckReadComplete (data : PageBytes) (s : State) : Result :=
  s.act fun s =>
    match s.link with
    | none => s
    | some l =>
      match l.operation.kind with
      | .checkRead b =>
        let s1 := s.readCompleted l
        if s1.inStage b .check then
          if s1.buffers[b].agrees (l.operation.start % 64) data then s1.endWell b else s1.checkFailed b
        else s1
      | .pageFetch _ | .streamRead | .program _ | .descriptorRead | .poll | .probeSelect => s

/-- STREAM_READ_COMPLETE (R140). -/
def execStreamReadComplete (data : Vector Byte 16) (s : State) : Result :=
  s.act fun s =>
    match s.link with
    | none => s
    | some l =>
      match l.operation.kind with
      | .streamRead => (s.readCompleted l).burstComplete data
      | .pageFetch _ | .program _ | .checkRead _ | .descriptorRead | .poll | .probeSelect => s

/-- DESCRIPTOR_READ_COMPLETE (R185): the bytes go into the descriptor store; the checks and the installation follow. -/
def execDescriptorReadComplete (data : PageBytes) (s : State) : Result :=
  s.act fun s =>
    match s.link with
    | none => s
    | some l =>
      match l.operation.kind with
      | .descriptorRead =>
        let s1 := s.readCompleted l
        { s1 with startup := { s1.startup with store := some data } }
      | .pageFetch _ | .streamRead | .program _ | .checkRead _ | .poll | .probeSelect => s

/-- POLL_DUE (R120, R122): a poll joins the request set; a device has at most one, and none while a probe of it is in
progress (R129). -/
def execPollDue (d : Fin 4) (s : State) : Result :=
  s.act fun s =>
    match s.devices[d].pollDue with
    | none => s
    | some t =>
      if s.devices[d].probe.isSome || s.requested .poll d || s.onLink .poll d then s
      else (s.advanceTo t).request { kind := .poll, device := d, start := 0, length := 0 }

/-- POLL_ACKNOWLEDGE (R120, R122). -/
def execPollAcknowledge (s : State) : Result :=
  s.act fun s =>
    match s.link with
    | none => s
    | some l =>
      match l.operation.kind with
      | .poll => (s.freeLink l).pollAcknowledged l.operation.device
      | .pageFetch _ | .streamRead | .program _ | .checkRead _ | .descriptorRead | .probeSelect => s

/-- POLL_REFUSE (R120, R122). -/
def execPollRefuse (s : State) : Result :=
  s.act fun s =>
    match s.link with
    | none => s
    | some l =>
      match l.operation.kind with
      | .poll => (s.freeLink l).pollRefused l.operation.device
      | .pageFetch _ | .streamRead | .program _ | .checkRead _ | .descriptorRead | .probeSelect => s

/-- PROGRAM_TIMEOUT (R121). -/
def execProgramTimeout (d : Fin 4) (s : State) : Result :=
  s.act fun s =>
    match s.devices[d].timeout with
    | none => s
    | some t => if s.devices[d].state = .programming then (s.advanceTo t).programTimedOut d else s

/-- PROBE_SELECT_DUE (R129): a probe select joins the request set. -/
def execProbeSelectDue (d : Fin 4) (s : State) : Result :=
  s.act fun s =>
    match s.devices[d].probe with
    | none => s
    | some p =>
      if s.requested .probeSelect d || s.onLink .probeSelect d then s
      else (s.advanceTo p.selectDue).request { kind := .probeSelect, device := d, start := 0, length := 0 }

/-- PROBE_SELECT_ACKNOWLEDGE (R129): the device becomes READY and the probe ends. -/
def execProbeSelectAcknowledge (s : State) : Result :=
  s.act fun s =>
    match s.link with
    | none => s
    | some l =>
      match l.operation.kind with
      | .probeSelect =>
        let s1 := s.freeLink l
        s1.setDevice l.operation.device
          { s1.devices[l.operation.device] with state := .ready, pollDue := none, timeout := none, probe := none }
      | .pageFetch _ | .streamRead | .program _ | .checkRead _ | .descriptorRead | .poll => s

/-- A refused probe select (R129): the next one 250 µs later, or ABSENT where the probe deadline has passed. -/
def State.probeRefused (s : State) (d : Fin 4) : State :=
  match s.devices[d].probe with
  | none => s
  | some p =>
    if p.deadline ≤ s.now then s.deviceAbsent d
    else s.setDevice d { s.devices[d] with probe := some { p with selectDue := s.now + Config.probeSelectInterval } }

/-- PROBE_SELECT_REFUSE (R129). -/
def execProbeSelectRefuse (s : State) : Result :=
  s.act fun s =>
    match s.link with
    | none => s
    | some l =>
      match l.operation.kind with
      | .probeSelect => (s.freeLink l).probeRefused l.operation.device
      | .pageFetch _ | .streamRead | .program _ | .checkRead _ | .descriptorRead | .poll => s

/-- PROBE_DEADLINE (R129): with no probe select of the device on the link, it becomes ABSENT; a select on the link runs to
its end and decides. -/
def execProbeDeadline (d : Fin 4) (s : State) : Result :=
  s.act fun s =>
    match s.devices[d].probe with
    | none => s
    | some p =>
      if s.onLink .probeSelect d then s.advanceTo p.deadline else (s.advanceTo p.deadline).deviceAbsent d

end Sys2Proof.Machine
end

