-- ==== Sys2Proof/Machine/SupplyAndReset.lean ====
section
/-! DEFINITION. The meanings of the supply rows (R158) and of the reset rows (R16, R167, R183). -/
namespace Sys2Proof.Machine

/-- The supply record takes a state and its timers. -/
def State.setSupply (s : State) (x : SupplyState) (sag recovery : Option Time) : State :=
  { s with supply := { s.supply with state := x, sagTimer := sag, recoveryTimer := recovery } }

/-- SUPPLY_BELOW_WARNING (R158). -/
def execSupplyBelowWarning (s : State) : Result :=
  s.act fun s =>
    if s.supply.state = .normal then s.setSupply .sagPending (some (s.now + Config.filterTime)) none else s

/-- SUPPLY_ABOVE_WARNING (R158). -/
def execSupplyAboveWarning (s : State) : Result :=
  s.act fun s => if s.supply.state = .sagPending then s.setSupply .normal none none else s

/-- The supply becomes LOW (R158); a RUNNING part enters HOLDUP (R159), a STARTING one goes on (R160). -/
def State.supplyLow (s : State) : State :=
  let s1 := s.setSupply .low none none
  if s1.part = .running then s1.enterHoldup else s1

/-- SAG_TIMER_EXPIRY (R158). -/
def execSagTimerExpiry (s : State) : Result :=
  s.act fun s =>
    match s.supply.state, s.supply.sagTimer with
    | .sagPending, some t => (s.advanceTo t).supplyLow
    | _, _ => s

/-- SUPPLY_ABOVE_RECOVERY (R158). -/
def execSupplyAboveRecovery (s : State) : Result :=
  s.act fun s =>
    if s.supply.state = .low then s.setSupply .recoverPending none (some (s.now + Config.filterTime)) else s

/-- SUPPLY_BELOW_RECOVERY (R158). -/
def execSupplyBelowRecovery (s : State) : Result :=
  s.act fun s => if s.supply.state = .recoverPending then s.setSupply .low none none else s

/-- The supply becomes NORMAL again (R158); a part in HOLDUP returns to RUNNING (R165, R166). -/
def State.supplyRecovered (s : State) : State :=
  let s1 := s.setSupply .normal none none
  if s1.part = .holdup then s1.exitHoldup else s1

/-- RECOVERY_TIMER_EXPIRY (R158). -/
def execRecoveryTimerExpiry (s : State) : Result :=
  s.act fun s =>
    match s.supply.state, s.supply.recoveryTimer with
    | .recoverPending, some t => (s.advanceTo t).supplyRecovered
    | _, _ => s

/-- POWER_ON_RESET (R167): the supply falls below 2.40 V, and reset begins. -/
def execPowerOnReset (s : State) : Result := .next s.beginReset

/-- RST_ASSERT (R16, R183): RST# falls, and reset begins. -/
def execRstAssert (s : State) : Result := .next s.beginReset

/-- RESET_END (R183, R168): reset that was held ends. -/
def execResetEnd (style : CycleStyle) (msa belowWarning : Bool) (s : State) : Result :=
  if s.resetHeld then .next (s.endReset style msa belowWarning) else .next s

end Sys2Proof.Machine
end

