-- ==== Sys2Proof/Machine/ManagementLink.lean ====
section
/-! DEFINITION. The meanings of the management link's rows: bytes, ends of transactions, applies and commands. -/
namespace Sys2Proof.Machine

/-- MANAGEMENT_ADDRESS_BYTE (R169): a repeated start first ends the open transaction (R171, log entry 7). -/
def execManagementAddressByte (v : Byte) (s : State) : Result :=
  if s.resetHeld then .next s else .next ((s.endTransaction.conclude s).openTransaction v)

/-- POINTER_BYTE (R170). -/
def execPointerByte (v : Byte) (s : State) : Result := s.act fun s => s.takePointer v

/-- DATA_BYTE (R170). -/
def execDataByte (v : Byte) (s : State) : Result := s.act fun s => s.takeData v

/-- MANAGEMENT_READ_BYTE (R174). -/
def execManagementReadByte (acknowledged : Bool) (s : State) : Result := s.act fun s => s.sendByte acknowledged

/-- MANAGEMENT_TRANSACTION_END (R171). -/
def execManagementTransactionEnd (s : State) : Result := s.act State.endTransaction

/-- The end of a write transaction whose shadow calls for an apply of the given kind; any other transaction is not the
row's (log entry 7). -/
def State.applyRow (s : State) (isKind : ApplyKind → Bool) : Result :=
  s.act fun s =>
    match s.pendingShadow with
    | some x => if isKind x.kind then s.endTransaction else s
    | none => s

/-- Whether an apply is a region's. -/
def ApplyKind.isRegion : ApplyKind → Bool
  | .region _ => true
  | .watch _ | .settings | .eventFlagClear | .faultRecordEmpty | .readOnly | .argumentStore | .flush | .barrier
  | .retry | .discard | .dropClean | .reprobe | .unknown => false

/-- Whether an apply is a watch's. -/
def ApplyKind.isWatch : ApplyKind → Bool
  | .watch _ => true
  | .region _ | .settings | .eventFlagClear | .faultRecordEmpty | .readOnly | .argumentStore | .flush | .barrier
  | .retry | .discard | .dropClean | .reprobe | .unknown => false

/-- REGION_APPLY (R25). -/
def execRegionApply (s : State) : Result := s.applyRow ApplyKind.isRegion

/-- WATCH_APPLY (R146). -/
def execWatchApply (s : State) : Result := s.applyRow ApplyKind.isWatch

/-- SETTINGS_APPLY (R30, R173). -/
def execSettingsApply (s : State) : Result := s.applyRow fun k => decide (k = .settings)

/-- EVENT_FLAG_CLEAR (R179). -/
def execEventFlagClear (s : State) : Result := s.applyRow fun k => decide (k = .eventFlagClear)

/-- FAULT_RECORD_EMPTY (R11). -/
def execFaultRecordEmpty (s : State) : Result := s.applyRow fun k => decide (k = .faultRecordEmpty)

/-- READ_ONLY_APPLY (R172). -/
def execReadOnlyApply (s : State) : Result := s.applyRow fun k => decide (k = .readOnly)

/-- COMMAND_ARGUMENT_STORE (R176). -/
def execCommandArgumentStore (s : State) : Result := s.applyRow fun k => decide (k = .argumentStore)

/-- FLUSH (R82). -/
def execFlush (s : State) : Result := s.applyRow fun k => decide (k = .flush)

/-- BARRIER (R66). -/
def execBarrier (s : State) : Result := s.applyRow fun k => decide (k = .barrier)

/-- RETRY (R105). -/
def execRetry (s : State) : Result := s.applyRow fun k => decide (k = .retry)

/-- DISCARD (R106). -/
def execDiscard (s : State) : Result := s.applyRow fun k => decide (k = .discard)

/-- DROP_CLEAN (R57). -/
def execDropClean (s : State) : Result := s.applyRow fun k => decide (k = .dropClean)

/-- REPROBE (R130). -/
def execReprobe (s : State) : Result := s.applyRow fun k => decide (k = .reprobe)

/-- UNKNOWN_COMMAND (R177). -/
def execUnknownCommand (s : State) : Result := s.applyRow fun k => decide (k = .unknown)

end Sys2Proof.Machine
end

