-- ==== Sys2Proof/Machine/Dispatch.lean ====
section
/-! DEFINITION. The meaning of every command, one arm per constructor of `Instr`. -/
namespace Sys2Proof.Machine

/-- The effect of a command on everything but the queue of commands. -/
def exec (i : Instr) (s : State) : Host.Outcome State Fault Refusal :=
  match i with
  | .hostAccessStart edge ceLow address data => Sys2Proof.Machine.execHostAccessStart edge ceLow address data s
  | .hostAccessEnd edge => Sys2Proof.Machine.execHostAccessEnd edge s
  | .waitDeadline => Sys2Proof.Machine.execWaitDeadline s
  | .holdDeadline => Sys2Proof.Machine.execHoldDeadline s
  | .arbiterStart => Sys2Proof.Machine.execArbiterStart s
  | .pageFetchComplete data => Sys2Proof.Machine.execPageFetchComplete data s
  | .transferError byteIndex => Sys2Proof.Machine.execTransferError byteIndex s
  | .commitStart b => Sys2Proof.Machine.execCommitStart b s
  | .absentHandover b => Sys2Proof.Machine.execAbsentHandover b s
  | .programComplete => Sys2Proof.Machine.execProgramComplete s
  | .pollDue d => Sys2Proof.Machine.execPollDue d s
  | .pollAcknowledge => Sys2Proof.Machine.execPollAcknowledge s
  | .pollRefuse => Sys2Proof.Machine.execPollRefuse s
  | .programTimeout d => Sys2Proof.Machine.execProgramTimeout d s
  | .checkReadComplete data => Sys2Proof.Machine.execCheckReadComplete data s
  | .ageDeadline b => Sys2Proof.Machine.execAgeDeadline b s
  | .flushreqFall => Sys2Proof.Machine.execFlushreqFall s
  | .streamReadComplete data => Sys2Proof.Machine.execStreamReadComplete data s
  | .probeSelectDue d => Sys2Proof.Machine.execProbeSelectDue d s
  | .probeSelectAcknowledge => Sys2Proof.Machine.execProbeSelectAcknowledge s
  | .probeSelectRefuse => Sys2Proof.Machine.execProbeSelectRefuse s
  | .probeDeadline d => Sys2Proof.Machine.execProbeDeadline d s
  | .descriptorReadComplete data => Sys2Proof.Machine.execDescriptorReadComplete data s
  | .supplyBelowWarning => Sys2Proof.Machine.execSupplyBelowWarning s
  | .supplyAboveWarning => Sys2Proof.Machine.execSupplyAboveWarning s
  | .sagTimerExpiry => Sys2Proof.Machine.execSagTimerExpiry s
  | .supplyAboveRecovery => Sys2Proof.Machine.execSupplyAboveRecovery s
  | .supplyBelowRecovery => Sys2Proof.Machine.execSupplyBelowRecovery s
  | .recoveryTimerExpiry => Sys2Proof.Machine.execRecoveryTimerExpiry s
  | .powerOnReset => Sys2Proof.Machine.execPowerOnReset s
  | .rstAssert => Sys2Proof.Machine.execRstAssert s
  | .resetEnd style msa belowWarning => Sys2Proof.Machine.execResetEnd style msa belowWarning s
  | .managementAddressByte byte => Sys2Proof.Machine.execManagementAddressByte byte s
  | .pointerByte byte => Sys2Proof.Machine.execPointerByte byte s
  | .dataByte byte => Sys2Proof.Machine.execDataByte byte s
  | .managementTransactionEnd => Sys2Proof.Machine.execManagementTransactionEnd s
  | .regionApply => Sys2Proof.Machine.execRegionApply s
  | .watchApply => Sys2Proof.Machine.execWatchApply s
  | .settingsApply => Sys2Proof.Machine.execSettingsApply s
  | .eventFlagClear => Sys2Proof.Machine.execEventFlagClear s
  | .faultRecordEmpty => Sys2Proof.Machine.execFaultRecordEmpty s
  | .readOnlyApply => Sys2Proof.Machine.execReadOnlyApply s
  | .commandArgumentStore => Sys2Proof.Machine.execCommandArgumentStore s
  | .flush => Sys2Proof.Machine.execFlush s
  | .barrier => Sys2Proof.Machine.execBarrier s
  | .retry => Sys2Proof.Machine.execRetry s
  | .discard => Sys2Proof.Machine.execDiscard s
  | .dropClean => Sys2Proof.Machine.execDropClean s
  | .reprobe => Sys2Proof.Machine.execReprobe s
  | .unknownCommand => Sys2Proof.Machine.execUnknownCommand s
  | .flushreqRise => Sys2Proof.Machine.execFlushreqRise s
  | .managementReadByte acknowledged => Sys2Proof.Machine.execManagementReadByte acknowledged s

end Sys2Proof.Machine
end

