-- ==== Sys2Proof/Machine/Step.lean ====
section
/-! DEFINITION. One step: the command at the front of the queue, or one tick of the clock. -/
namespace Sys2Proof.Machine

/-- On an empty queue the block idles, and the clock advances by one wait unit (log entry 1). -/
def State.idle (s : State) : State := { s with now := s.now + 1 }

/-- One step: the command at the front of `pending` acts on the state that holds the queue's rest. -/
def step (s : State) : Host.Outcome State Fault Refusal :=
  match s.pending with
  | [] => .next s.idle
  | c :: rest => exec c { s with pending := rest }

/-- `s` with the command that a word spells by the table's bits at the front of its queue; `s` where it spells none. -/
def State.withFetchWord (s : State) (nbits w : Nat) : State :=
  match decodeTableWord nbits w with
  | none => s
  | some c => { s with pending := c :: s.pending }

end Sys2Proof.Machine
end

