-- ==== Sys2Proof/Safety.lean ====
section
/-! DEFINITION. What the rules of the spec say of every state the KL-416 can be in: the invariants that a step keeps. -/
namespace Sys2Proof.Machine

/-! ### Region table, settings and budget (R17, R25, R30, R161, R162) -/

/-- Every field of a region entry holds a value from its range (section 2.1). -/
abbrev Region.inRange (r : Region) : Prop :=
  r.hostBase ≤ 16383 ∧ 1 ≤ r.pageCount ∧ r.pageCount ≤ 16384 ∧ r.deviceBase ≤ 2047 ∧ r.wait ≤ 15 ∧ r.ageCode ≤ 15

/-- Every setting holds a value from its range (10 section 10.1). -/
abbrev Settings.inRange (x : Settings) : Prop :=
  x.lowWater ≤ 8 ∧ x.holdLimit ≤ 255 ∧ x.budget ≤ 15 ∧ 1 ≤ x.programTimeout ∧ x.programTimeout ≤ 31

/-- Every enabled region lies within the host space and within the capacity of its device (R17). -/
abbrev State.regionsWithin (s : State) : Prop :=
  ∀ n : Fin 8, s.regions[n].enabled = true → s.regions[n].within s.devices[s.regions[n].device].capacity = true

/-- No two enabled regions have overlapping host ranges (R17). -/
abbrev State.regionsApart (s : State) : Prop :=
  ∀ m n : Fin 8, m ≠ n → s.regions[m].enabled = true → s.regions[n].enabled = true →
    s.regions[m].overlaps s.regions[n] = false

/-- The budget count never exceeds its setting (R161), and equals it outside HOLDUP (R162). -/
abbrev State.budgetGood (s : State) : Prop :=
  s.supply.count ≤ s.settings.budget ∧ (s.part ≠ .holdup → s.supply.count = s.settings.budget)

/-- The region table, the settings and the budget count are as the guards keep them. -/
abbrev State.configured (s : State) : Prop :=
  (∀ n : Fin 8, s.regions[n].inRange) ∧ s.settings.inRange ∧ s.regionsWithin ∧ s.regionsApart ∧ s.budgetGood

/-! ### Commit queue (R61, R64, R80) -/

namespace Queue

/-- No marker stands at the head (R64). -/
def headGood : List QueueEntry → Bool
  | .marker _ :: _ => false
  | _ => true

/-- No two markers stand side by side (R64). -/
def spaced : List QueueEntry → Bool
  | .marker _ :: .marker _ :: _ => false
  | _ :: rest => spaced rest
  | [] => true

/-- The form the queue always has: no marker at the head, none beside another, at most one entry for each buffer (R61), at
most one flush mark (R80). -/
abbrev canonical (q : List QueueEntry) : Prop :=
  headGood q = true ∧ spaced q = true ∧ (∀ b : Fin 16, q.countP (·.isFor b) ≤ 1) ∧ q.countP (·.isMarked) ≤ 1

end Queue

/-! ### Buffers (R34, R35, R36, R37, R40, R71, R103) -/

/-- Whether a buffer in a state has an entry (R34). -/
def BufferState.hasEntry : BufferState → Bool
  | .free | .clean => false
  | .dirty | .committing | .failed => true

/-- The dirty and in-flight maps lie within the valid map and share no offset (R35). -/
abbrev PageBuffer.mapsNested (x : PageBuffer) : Prop :=
  x.dirty &&& ~~~x.valid = 0 ∧ x.inFlight &&& ~~~x.valid = 0 ∧ x.dirty &&& x.inFlight = 0

/-- What R34 and R35 say of a record in its state; while COMMITTING some offset is dirty or in flight, and in FILL none is
in flight (05 section 5.1). -/
def PageBuffer.fitsState (x : PageBuffer) : Bool :=
  match x.state with
  | .free => decide (x.valid = 0 ∧ x.dirty = 0 ∧ x.inFlight = 0 ∧ x.tag = none ∧ x.fill = false ∧ x.attempts = 0 ∧
      x.commitRegion = none ∧ x.ageDeadline = none ∧ x.stage = none ∧ x.sent = none)
  | .clean => decide (x.dirty = 0 ∧ x.inFlight = 0 ∧ x.tag ≠ none ∧ x.attempts ≤ 2 ∧ x.commitRegion = none ∧
      x.ageDeadline = none ∧ x.stage = none)
  | .dirty => decide (x.dirty ≠ 0 ∧ x.inFlight = 0 ∧ x.tag ≠ none ∧ x.attempts ≤ 2 ∧ x.commitRegion ≠ none ∧
      x.stage = none)
  | .committing => decide (x.dirty ||| x.inFlight ≠ 0 ∧ x.tag ≠ none ∧ x.attempts ≤ 2 ∧ x.commitRegion ≠ none ∧
      x.stage ≠ none ∧ (x.stage = some .fill → x.inFlight = 0))
  | .failed => decide (x.dirty ≠ 0 ∧ x.inFlight = 0 ∧ x.tag ≠ none ∧ x.attempts ≤ 3 ∧ x.commitRegion ≠ none ∧
      x.stage = none)

/-- Each buffer has exactly one entry when it is DIRTY, COMMITTING or FAILED, and none otherwise (R34). -/
abbrev State.paired (s : State) : Prop :=
  ∀ b : Fin 16, s.queue.countP (·.isFor b) = if s.buffers[b].state.hasEntry then 1 else 0

/-- No two buffers carry the same tag (R36). -/
abbrev State.tagsUnique (s : State) : Prop :=
  ∀ b b' : Fin 16, s.buffers[b].tag ≠ none → s.buffers[b].tag = s.buffers[b'].tag → b = b'

/-- The recency list holds each buffer that is not FREE, once each (R37). -/
abbrev State.recencyGood (s : State) : Prop :=
  s.recency.Nodup ∧ ∀ b : Fin 16, b ∈ s.recency ↔ s.buffers[b].state ≠ .free

/-- Whether the operation on the link is a page fetch of `b` with its requester. -/
def State.fetchOnLink (s : State) (b : Fin 16) : Bool :=
  match s.link with
  | none => false
  | some l => decide (l.operation.kind = .pageFetch b) && l.hasRequester

/-- The page fetches pending for a buffer: those in the request set, and the one on the link (R40). -/
def State.fetchesPending (s : State) (b : Fin 16) : Nat :=
  s.requests.countP (fun o => decide (o.kind = .pageFetch b)) + if s.fetchOnLink b then 1 else 0

/-- Each buffer has at most one page fetch pending, and its fill flag is set exactly while one is (R40). -/
abbrev State.fillsGood (s : State) : Prop :=
  ∀ b : Fin 16, s.fetchesPending b = if s.buffers[b].fill then 1 else 0

/-- A COMMITTING buffer's entry has no marker before it, and no device has two COMMITTING buffers (R71). -/
abbrev State.commitsGood (s : State) : Prop :=
  (∀ b : Fin 16, s.buffers[b].state = .committing → Queue.markerBefore s.queue b = false) ∧
  ∀ b b' : Fin 16, s.buffers[b].state = .committing → s.buffers[b'].state = .committing →
    s.deviceOfBuffer b = s.deviceOfBuffer b' → b = b'

/-- The buffers, the recency list, the commit queue and the pending fetches agree with each other. -/
abbrev State.coherent (s : State) : Prop :=
  Queue.canonical s.queue ∧ (∀ b : Fin 16, s.buffers[b].mapsNested ∧ s.buffers[b].fitsState = true) ∧ s.paired ∧
    s.tagsUnique ∧ s.recencyGood ∧ s.fillsGood ∧ s.commitsGood

/-! ### Stream (R134) -/

/-- IDLE has an empty queue, no stall and no burst but a spoiled one; otherwise the queue ends within the range limit, the
queue and an unspoiled burst hold at most 16 bytes, and the burst follows the last queued byte up to the range limit. -/
def Stream.good (x : Stream) : Bool :=
  match x.context with
  | none => decide (x.queue = [] ∧ x.stall = none) && x.burst.all (·.spoiled)
  | some c =>
    decide (x.queue.length ≤ Config.streamQueueBytes ∧ (x.queue = [] ∨ c.address + x.queue.length ≤ c.limit + 1)) &&
      x.burst.all fun u => u.spoiled || decide (u.device = c.device ∧ u.start = c.address + x.queue.length ∧
        1 ≤ u.length ∧ x.queue.length + u.length ≤ Config.streamQueueBytes ∧ u.start + u.length ≤ c.limit + 1 ∧
        x.stall = none)

/-- The stream is IDLE in STARTING (R14, R145). -/
abbrev State.streamIdleInStarting (s : State) : Prop := s.part = .starting → s.stream.context = none

/-! ### Device records (06 section 6.3) -/

/-- The deadlines and the counter that a record keeps in its state. -/
def Device.good (x : Device) : Bool :=
  match x.state with
  | .absent => decide (x.counter = none ∧ x.pollDue = none ∧ x.timeout = none)
  | .ready => decide (x.pollDue = none ∧ x.timeout = none)
  | .programming => decide (x.pollDue ≠ none ∧ x.timeout ≠ none)
  | .stuck => decide ((x.pollDue ≠ none ∨ x.probe ≠ none) ∧ x.timeout = none)

/-- Every device record keeps the fields of its state. -/
abbrev State.devicesGood (s : State) : Prop := ∀ d : Fin 4, s.devices[d].good = true

/-! ### Consequences (log entry 4) -/

/-- No consequence is left to draw: no entry can start its commit or be handed over, nothing that an access, a flush or
start-up waits on has come about. -/
abbrev State.settled (s : State) : Prop := s.consequence = none

/-- The part works: reset is not held, and start-up has ended. -/
abbrev State.inService (s : State) : Prop := s.resetHeld = false ∧ s.startup.phase = .done

/-! ### Vocabulary of the statements -/

/-- The state after `a`, the access in progress, has been refused (R8, R10): the outcome, the fill byte for a read, the
fault record and ACCESS_FAULT; nothing else differs. -/
def State.afterRefusal (s : State) (a : Access) (c : Cause) : State :=
  { s with
    port := { s.port with
      access := some { a with status := .done (.refused c) }
      readByte := if a.direction = .read then s.settings.fillByte else s.port.readByte
      fault := s.port.fault.capture a c }
    flags := s.flags ||| EventFlag.accessFault.mask }

/-- The state at an active edge, before the access is decoded or refused (R3, R4). -/
abbrev State.latched (s : State) (dir : Direction) (address : HostAddress) (data : Byte) : State :=
  s.startAccess dir address data

/-- The access of an active edge, decoded in RUNNING (R4). -/
def State.decodedAccess (s : State) (dir : Direction) (address : HostAddress) (data : Byte) (d : Decode) : Access :=
  { s.newAccess dir address with
    writeByte := if dir = .write then some data else none, decode := some d, waitDeadline := s.now + d.wait }

/-- A host access in service finds the Port IDLE, in the strapped style, with CE# low, and decodes to `d`. -/
abbrev State.takesAccess (s : State) (edge : ActiveEdge) (dir : Direction) (address : HostAddress) (d : Decode) : Prop :=
  s.inService ∧ s.part = .running ∧ s.port.access = none ∧ activeDirection s.straps.style edge = some dir ∧
    s.decode address = some d

/-- No watch looks at writes to a host address. -/
abbrev State.unwatched (s : State) (address : HostAddress) : Prop :=
  ∀ n : Fin 8, s.watches[n].watchesAddress address = false

/-- The entry of `b` stands in the queue with the PUSH cause. -/
def Queue.pushed (q : List QueueEntry) (b : Fin 16) : Bool :=
  q.any fun e => match e with
    | .buffer b' _ push => decide (b' = b) && push
    | .marker _ => false

/-- The entry of `b` stands in the queue with the AGED cause. -/
def Queue.aged (q : List QueueEntry) (b : Fin 16) : Bool :=
  q.any fun e => match e with
    | .buffer b' aged _ => decide (b' = b) && aged
    | .marker _ => false

/-- The place of a class in the arbiter's order (R124). -/
def LinkClass.rank : LinkClass → Nat
  | .demand => 0
  | .poll => 1
  | .commit => 2
  | .prefetch => 3
  | .probe => 4

/-- The row of the table that applies a shadow (log entry 7). -/
def ApplyKind.row : ApplyKind → Instr
  | .region _ => .regionApply
  | .watch _ => .watchApply
  | .settings => .settingsApply
  | .eventFlagClear => .eventFlagClear
  | .faultRecordEmpty => .faultRecordEmpty
  | .readOnly => .readOnlyApply
  | .argumentStore => .commandArgumentStore
  | .flush => .flush
  | .barrier => .barrier
  | .retry => .retry
  | .discard => .discard
  | .dropClean => .dropClean
  | .reprobe => .reprobe
  | .unknown => .unknownCommand

/-- The open write transaction's shadow calls for an apply of a kind. -/
abbrev State.applies (s : State) (x : Shadow) (k : ApplyKind) : Prop := s.pendingShadow = some x ∧ x.kind = k

/-- The management record after an apply: IDLE with no shadow, and the two statuses. -/
def Management.closed (m : Management) (apply : ApplyStatus) (command : CommandStatus) : Management :=
  { m with transaction := .idle, shadow := none, applyStatus := apply, commandStatus := command }

/-- The management record with the written bytes of code and argument taken (R176). -/
def Management.taken (m : Management) (x : Shadow) : Management :=
  { m with
    code := if x.wrote 0 then x.bytes[0] else m.code
    argument := if x.wrote 1 then x.bytes[1] else m.argument }

/-- The eight bytes of a region entry hold a value that R191 names. -/
abbrev regionValueFails (v : Vector Byte 8) : Prop :=
  bits v[2] 6 0 * 256 + v[3].toNat = 0 ∨ bits v[2] 6 0 * 256 + v[3].toNat > 16384 ∨
    bits v[4] 3 0 * 256 + v[5].toNat > 2047 ∨ bits v[6] 6 4 > 3

/-- The eight bytes of a watch entry hold a value that R191 names. -/
abbrev watchValueFails (v : Vector Byte 8) : Prop :=
  v[0].toNat * 65536 + v[1].toNat * 256 + v[2].toNat > 0xFFFFF ∨ bits v[5] 1 0 > 1

/-- The eight bytes of the settings hold a value that R191 names. -/
abbrev settingsValueFails (v : Vector Byte 8) : Prop :=
  v[1].toNat > 8 ∨ v[3].toNat > 15 ∨ v[4].toNat = 0 ∨ v[4].toNat > 31 ∨
    bits v[5] 1 0 = 3 ∨ bits v[5] 3 2 = 3 ∨ bits v[5] 5 4 = 3 ∨ bits v[5] 7 6 = 3

/-- What a refill planned in `s` for the context `c` makes of the queue `q` (R139). Buffer step: known bytes follow `q`, up
to 16 bytes and to the range limit, as far as each next one is known. Device step: where room and range are left, one burst
from the fill address on is requested for what both allow, or fails at once for an unreachable device (R115, R127, R141). -/
abbrev State.refilled (s : State) (c : StreamContext) (q : List Byte) (t : State) : Prop :=
  q <+: t.stream.queue ∧ t.stream.queue.length ≤ max 16 q.length ∧
  (∀ i : Fin 16, q.length ≤ i.val → i.val < t.stream.queue.length →
    s.knownByte c.device (c.address + i.val) = t.stream.queue[i.val]? ∧ c.address + i.val ≤ c.limit) ∧
  if t.stream.queue.length < 16 ∧ c.address + t.stream.queue.length ≤ c.limit then
    s.knownByte c.device (c.address + t.stream.queue.length) = none ∧
    if s.unreachable c.device = true then t.stream.burst = none ∧ t.stream.stall = some .device
    else
      t.stream.stall = none ∧
      t.stream.burst = some
        { device := c.device, start := c.address + t.stream.queue.length
          length := min (16 - t.stream.queue.length) (c.limit + 1 - (c.address + t.stream.queue.length))
          spoiled := false } ∧
      { kind := .streamRead, device := c.device, start := c.address + t.stream.queue.length
        length := min (16 - t.stream.queue.length) (c.limit + 1 - (c.address + t.stream.queue.length)) } ∈ t.requests
  else t.stream.burst = none ∧ t.stream.stall = none

/-- In `t` the buffer `b`, tagged `g`, is in SEND (R91): the span of its dirty map in `s`, with the verify of its commit
region, copied to the transmit store, in flight, and requested as a program. -/
abbrev State.sendsSpan (s : State) (b : Fin 16) (g : Tag) (t : State) : Prop :=
  t.buffers[b].stage = some .send ∧ t.buffers[b].dirty = 0 ∧
  t.buffers[b].inFlight = s.buffers[b].inFlight ||| s.buffers[b].dirty ∧
  t.buffers[b].sent = some
    { first := lowest s.buffers[b].dirty, length := spanLength s.buffers[b].dirty
      verify := s.buffers[b].commitRegion.any fun n => s.regions[n].verify } ∧
  t.transmit[g.device] = some
    { start := g.page * 64 + lowest s.buffers[b].dirty
      bytes := (List.range (spanLength s.buffers[b].dirty)).map fun i =>
        (s.buffers[b].data[lowest s.buffers[b].dirty + i]?).getD 0 } ∧
  { kind := .program b, device := g.device, start := g.page * 64 + lowest s.buffers[b].dirty
    length := spanLength s.buffers[b].dirty } ∈ t.requests

/-- The eight bytes at the space addresses of an entry, as numbers. -/
abbrev State.entryReads (s : State) (entry : Nat) (numbers : List Nat) : Prop :=
  (List.range 8).map (fun i => (s.spaceByte (BitVec.ofNat 8 (entry * 8 + i))).toNat) = numbers

/-- The four status bytes of a buffer as numbers (R59, 12 section 12.4): fill flag, attempts and state; tag; position, or
255 without an entry. A buffer without a tag is FREE and reads as device 0 page 0. -/
def State.statusNumbers (s : State) (b : Fin 16) : List Nat :=
  let x := s.buffers[b]
  let g := x.tag.getD ⟨0, 0⟩
  [x.fill.toNat * 128 + x.attempts * 16 +
      (match x.state with
        | .free => 0
        | .clean => 1
        | .dirty => 2
        | .committing => 3
        | .failed => 4),
    g.device.val * 64 + g.page / 256, g.page % 256, (s.queue.findIdx? (·.isFor b)).getD 255]

/-- The buffer whose fetch, program or CHECK read an operation is. -/
def OperationKind.servedBuffer : OperationKind → Option (Fin 16)
  | .pageFetch b | .program b | .checkRead b => some b
  | .streamRead | .descriptorRead | .poll | .probeSelect => none

/-- In `t` the access that waited in `s` on the removal of `b`'s entry has been answered: a write-through access is
completed (R79); a cross-generation write is applied to the buffer, which has a new entry with the write's region, and is
completed, or waits for that entry where its policy is WRITE_THROUGH (R76, R78). -/
abbrev State.entryWaiterAnswered (s t : State) (b : Fin 16) : Prop :=
  (∀ a, s.port.access = some a → a.status = .pending (.entry b) →
    t.port.access = some { a with status := .done .completed }) ∧
  ∀ a d v, s.port.access = some a → a.status = .pending (.crossGeneration b) → a.direction = .write →
    a.decode = some d → a.writeByte = some v → s.findBuffer d.device (d.address / 64) = some b →
    t.port.access = some
      { a with status := if d.policy = .writeThrough then .pending (.entry b) else .done .completed } ∧
    t.buffers[b].data[d.address % 64]? = some v ∧ Queue.hasEntry t.queue b = true ∧
    t.buffers[b].commitRegion = some d.region

/-- In `t` the commit of `b` has ended well with rewritten bytes (R99): the entry has kept its place, causes, commit region
and age deadline, and the buffer its attempts and bytes; what was in flight is valid and clean, and what was dirty is dirty
or, a new commit having started, in flight. With an own cause the entry is wanted again; in RUNNING, in the front generation
and with no other buffer of its device DIRTY or COMMITTING, the new commit starts at the same evaluation. -/
abbrev State.keepsRewrittenEntry (s t : State) (b : Fin 16) : Prop :=
  Queue.unmark t.queue = Queue.unmark s.queue ∧
  t.buffers[b].commitRegion = s.buffers[b].commitRegion ∧ t.buffers[b].ageDeadline = s.buffers[b].ageDeadline ∧
  t.buffers[b].attempts = s.buffers[b].attempts ∧ t.buffers[b].tag = s.buffers[b].tag ∧
  t.buffers[b].data = s.buffers[b].data ∧ t.buffers[b].valid = s.buffers[b].valid ∧
  t.buffers[b].dirty ||| t.buffers[b].inFlight = s.buffers[b].dirty ∧
  (t.buffers[b].state = .dirty ∨ t.buffers[b].state = .committing) ∧
  (Queue.pushed s.queue b = true ∨ Queue.aged s.queue b = true → t.wanted b = true ∧
    (s.part = .running → Queue.markerBefore s.queue b = false →
      (∀ b' : Fin 16, b' ≠ b → s.deviceOfBuffer b' = s.deviceOfBuffer b →
        s.buffers[b'].state ≠ .dirty ∧ s.buffers[b'].state ≠ .committing) →
      t.buffers[b].state = .committing))

/-- In `t` a flush has been requested (R80, R81): no entry has gone or come, but where the tail was a buffer entry a marker
stands behind it; while an entry is DIRTY or COMMITTING, the marker at the tail carries the one flush mark and FLUSH_DONE is
as before, and where none is, FLUSH_DONE has been raised and no flush is pending. -/
abbrev State.flushRequested (s t : State) : Prop :=
  Queue.unmark t.queue =
    Queue.unmark (if s.queue.getLast?.any (fun e => !e.isMarker) then s.queue ++ [.marker false] else s.queue) ∧
  if ∃ b : Fin 16, Queue.hasEntry t.queue b = true ∧ (t.buffers[b].state = .dirty ∨ t.buffers[b].state = .committing) then
    t.queue.getLast? = some (.marker true) ∧ t.queue.countP (·.isMarked) = 1 ∧ t.flagSet .flushDone = s.flagSet .flushDone
  else t.flagSet .flushDone = true ∧ Queue.flushPending t.queue = false

/-- A device address is that of a queued byte of the stream, or lies in its burst, not spoiled (R56, R143). -/
abbrev State.inGuardedRange (s : State) (device : Fin 4) (address : Nat) : Prop :=
  s.stream.context.any (fun c => decide (c.device = device ∧
    (c.address ≤ address ∧ address < c.address + s.stream.queue.length ∨
      s.stream.burst.any (fun u => decide (u.spoiled = false ∧ u.start ≤ address ∧ address < u.start + u.length)) = true)))
    = true

/-- A descriptor with a good header passes the checks of R187: checksum, region count, settings values, region values,
region ranges and overlap. -/
abbrev descriptorPasses (data : PageBytes) : Prop :=
  ((List.range 62).map fun i => ((data[i]?).getD 0).toNat).sum % 65536 = data[62].toNat * 256 + data[63].toNat ∧
  data[3].toNat ≤ 6 ∧ ¬ settingsValueFails (eightBytes data 52) ∧
  (∀ k : Fin 6, k.val < data[3].toNat → ¬ regionValueFails (eightBytes data (4 + 8 * k.val))) ∧
  (∀ k : Fin 6, k.val < data[3].toNat → ∀ r x capacities,
    Region.ofBytes (eightBytes data (4 + 8 * k.val)) = some r → Settings.ofBytes (eightBytes data 52) = some (x, capacities) →
    r.enabled = true → r.hostBase + r.pageCount ≤ 16384 ∧ r.deviceBase + r.pageCount ≤ capacities[r.device].pages) ∧
  ∀ j k : Fin 6, j < k → k.val < data[3].toNat → ∀ r r',
    Region.ofBytes (eightBytes data (4 + 8 * j.val)) = some r → Region.ofBytes (eightBytes data (4 + 8 * k.val)) = some r' →
    r.enabled = true → r'.enabled = true →
    r.hostBase + r.pageCount ≤ r'.hostBase ∨ r'.hostBase + r'.pageCount ≤ r.hostBase

/-- The agents that a command comes from: the units of the block that the rows of the table belong to. -/
inductive CommandClass where
  | hostBus | pageLink (device : Option (Fin 4)) | commits | supply | reset | management
  deriving DecidableEq, Repr

/-- The class of a command; a row of the page link that names a device carries it. -/
def commandClass : Instr → CommandClass
  | .hostAccessStart .. | .hostAccessEnd .. | .waitDeadline | .holdDeadline => .hostBus
  | .pollDue d | .programTimeout d | .probeSelectDue d | .probeDeadline d => .pageLink (some d)
  | .arbiterStart | .pageFetchComplete .. | .transferError .. | .programComplete | .pollAcknowledge | .pollRefuse
  | .checkReadComplete .. | .streamReadComplete .. | .probeSelectAcknowledge | .probeSelectRefuse
  | .descriptorReadComplete .. => .pageLink none
  | .commitStart .. | .absentHandover .. | .ageDeadline .. | .flushreqFall | .flushreqRise => .commits
  | .supplyBelowWarning | .supplyAboveWarning | .sagTimerExpiry | .supplyAboveRecovery | .supplyBelowRecovery
  | .recoveryTimerExpiry => .supply
  | .powerOnReset | .rstAssert | .resetEnd .. => .reset
  | .managementAddressByte .. | .pointerByte .. | .dataByte .. | .managementTransactionEnd | .regionApply | .watchApply
  | .settingsApply | .eventFlagClear | .faultRecordEmpty | .readOnlyApply | .commandArgumentStore | .flush | .barrier
  | .retry | .discard | .dropClean | .reprobe | .unknownCommand | .managementReadByte .. => .management

/-- Whether a command neither takes a host byte nor ends a page fetch nor frees a buffer, while no access waits. -/
def keepsBytes : Instr → Bool
  | .arbiterStart | .programComplete | .pollDue .. | .pollAcknowledge | .pollRefuse | .checkReadComplete ..
  | .streamReadComplete .. | .probeSelectDue .. | .probeSelectAcknowledge | .descriptorReadComplete ..
  | .commitStart .. | .absentHandover .. | .ageDeadline .. | .flushreqFall | .flushreqRise | .waitDeadline
  | .holdDeadline | .supplyBelowWarning | .supplyAboveWarning | .sagTimerExpiry | .supplyAboveRecovery
  | .supplyBelowRecovery | .recoveryTimerExpiry | .pointerByte .. | .dataByte .. | .managementReadByte ..
  | .regionApply | .watchApply | .eventFlagClear | .faultRecordEmpty | .readOnlyApply | .commandArgumentStore | .flush
  | .barrier | .retry | .reprobe | .unknownCommand => true
  | .hostAccessStart .. | .hostAccessEnd .. | .pageFetchComplete .. | .transferError .. | .programTimeout ..
  | .probeSelectRefuse | .probeDeadline .. | .powerOnReset | .rstAssert | .resetEnd .. | .managementAddressByte ..
  | .managementTransactionEnd | .settingsApply | .discard | .dropClean => false

/-- An operation of a kind for a device is the one on the link. -/
abbrev State.runs (s : State) (l : LinkOperation) (k : OperationKind) : Prop :=
  s.link = some l ∧ l.operation.kind = k

end Sys2Proof.Machine
end

