-- ==== Sys2Proof/Certificates/Slice0/Obligations.lean ====
section
/-! DEFINITION. The statements for the provers. -/

open Sys2Proof Sys2Proof.Machine

/-! ### The step and reset -/

/-- A step runs the command at the front of the queue on the state that holds the queue's rest; with no command waiting,
it moves the clock by one wait unit and nothing else (the tick is the model's choice, log entry 1). -/
def Obligations.StepRunsFrontCommandOrTicks : Prop :=
  (∀ (c : Instr) (rest : List Instr) (s : State), s.pending = c :: rest → step s = exec c { s with pending := rest }) ∧
  ∀ s : State, s.pending = [] → step s = .next { s with now := s.now + 1 }

/-- Every command answers a next state, keeps the queue of commands and never turns the clock back. That no command stops
the model is its choice (log entry 3), and so is the clock (log entry 1). -/
def Obligations.EveryCommandAnswers : Prop :=
  ∀ (c : Instr) (s : State), ∃ t, exec c s = .next t ∧ t.pending = s.pending ∧ s.now ≤ t.now

/-- What a command in service leaves alone. It leaves the part in service, with its straps and start-up outcome. But for
the management rows, region table, settings and management record stay and no event flag is cleared; but for the supply
rows, the part state and the supply state and timers; but for the rows of the page link and of management, the device
records and the operation on the link, and a row of the page link changes no record but that of its own device. With no
access waiting, the Port stays but for the host's own rows, the watches but for a host access or a management row, and
the rows that take, fetch and free no byte leave every buffer's tag, valid map and bytes. That the outcome of start-up
is kept until reset is log entry 25. -/
def Obligations.CommandsLeaveOtherBlocksAlone : Prop :=
  ∀ (c : Instr) (s : State), s.inService → commandClass c ≠ .reset → ∃ t, exec c s = .next t ∧
    t.inService ∧ t.straps = s.straps ∧ t.startup.outcome = s.startup.outcome ∧
    (commandClass c ≠ .management →
      t.management = s.management ∧ t.regions = s.regions ∧ t.settings = s.settings ∧ s.flags &&& ~~~t.flags = 0) ∧
    (commandClass c ≠ .supply → t.part = s.part ∧ t.supply.state = s.supply.state ∧
      t.supply.sagTimer = s.supply.sagTimer ∧ t.supply.recoveryTimer = s.supply.recoveryTimer) ∧
    ((commandClass c = .hostBus ∨ commandClass c = .commits ∨ commandClass c = .supply) →
      t.devices = s.devices ∧ t.link.map (·.operation) = s.link.map (·.operation)) ∧
    (∀ d e : Fin 4, e ≠ d →
      (commandClass c = .pageLink (some d) ∨
        commandClass c = .pageLink none ∧ s.link.map (·.operation.device) = some d) →
      t.devices[e] = s.devices[e]) ∧
    (s.waiting = none → commandClass c ≠ .hostBus →
      t.port.access = s.port.access ∧ t.port.readByte = s.port.readByte ∧ t.port.writeLatch = s.port.writeLatch ∧
      (commandClass c ≠ .management → t.port.fault = s.port.fault ∧ t.watches = s.watches)) ∧
    (s.waiting = none → keepsBytes c = true → ∀ b : Fin 16, t.buffers[b].tag = s.buffers[b].tag ∧
      t.buffers[b].valid = s.buffers[b].valid ∧ t.buffers[b].data = s.buffers[b].data)

/-- POWER_ON_RESET and RST_ASSERT leave every block at its reset values with reset held; the clock, the queue of
commands, the straps and the level of FLUSHREQ# stay. While reset is held, every command but RESET_END, the two reset
rows and the two edges of FLUSHREQ# has no effect, and a falling edge of FLUSHREQ# makes no request (log entry 23). Of
the values called reset values here, the write latch, the read byte register, ackDriven and sent are the model's choice
(log entry 8), and so are the zero data bytes of the FREE buffers (log entry 9). -/
def Obligations.ResetClearsAndHoldsEveryBlock : Prop :=
  (∀ (c : Instr) (s : State), (c = .powerOnReset ∨ c = .rstAssert) →
     exec c s = .next
       { State.held with now := s.now, pending := s.pending, flushreqLow := s.flushreqLow, straps := s.straps }) ∧
  ∀ (c : Instr) (s : State), s.resetHeld = true →
    (c = .flushreqFall → exec c s = .next { s with flushreqLow := true }) ∧
    ((∀ style msa below, c ≠ .resetEnd style msa below) → c ≠ .powerOnReset → c ≠ .rstAssert → c ≠ .flushreqFall →
      c ≠ .flushreqRise → exec c s = .next s)

/-- RESET_END samples the straps, puts the part in STARTING with every block at its reset values, starts the sag filter
for a supply below the warning level, and starts four probes of 10 ms. The state of the machine right after reset is
that of such a RESET_END at clock time 0 (log entry 2). Of these values, ackDriven and sent, and in State.reset the
write latch and the read byte register, are the model's choice (log entry 8), and so are the zero data bytes of the FREE
buffers (log entry 9). -/
def Obligations.ResetEndStartsStartup : Prop :=
  (∀ (style : CycleStyle) (msa below : Bool) (s : State), s.resetHeld = true → ∃ t,
     exec (.resetEnd style msa below) s = .next t ∧ t.resetHeld = false ∧ t.straps = ⟨style, msa⟩ ∧
     t.part = .starting ∧ t.startup = ⟨.probe, none, none⟩ ∧ t.port.access = none ∧ t.port.fault = FaultRecord.empty ∧
     t.settings = Settings.defaults ∧ t.regions = Vector.replicate 8 Region.cleared ∧
     t.buffers = Vector.replicate 16 PageBuffer.freed ∧ t.recency = [] ∧ t.queue = [] ∧ t.requests = [] ∧ t.link = none ∧
     t.transmit = Vector.replicate 4 none ∧ t.stream = Stream.afterReset ∧
     t.watches = Vector.replicate 8 Watch.afterReset ∧ t.flags = 0 ∧ t.management = Management.afterReset ∧
     t.supply = (if below then { State.held.supply with state := .sagPending, sagTimer := some (s.now + 16000) }
       else State.held.supply) ∧
     (∀ d : Fin 4, t.devices[d] =
       { Device.afterReset with probe := some { deadline := s.now + 160000, selectDue := s.now } })) ∧
  exec (.resetEnd .strobePair false false) State.held = .next State.reset

/-! ### Host bus -/

/-- An access whose active edge is taken in HOLDUP is refused HOLDUP with no decode; HWAIT# is not driven low. -/
def Obligations.AccessInHoldupIsRefused : Prop :=
  ∀ (edge : ActiveEdge) (dir : Direction) (address : HostAddress) (data : Byte) (s : State),
    s.inService → s.part = .holdup → s.port.access = none → activeDirection s.straps.style edge = some dir → ∃ t,
    exec (.hostAccessStart edge true address data) s = .next t ∧
    t.port.access = some { s.newAccess dir address with status := .done (.refused .holdup) } ∧
    t.port.fault = s.port.fault.capture (s.newAccess dir address) .holdup ∧
    (dir = .read → t.dataLines = some s.settings.fillByte) ∧
    t.flagSet .accessFault = true ∧ t.hwaitLow = false

/-- An access that starts in STARTING is held, not decoded, with its hold deadline at the hold limit in force after its
active edge, or absent where the limit is 0; the write latch takes D7-D0, the read byte register the fill byte; nothing
else changes. An edge starts nothing while CE# is high, while an access is in progress, or where it is no active edge of
the strapped style: RDS# or WRS# falling in strobe-pair style, EN rising with the level of RW in enable style. That an
edge without effect changes nothing is log entry 26. -/
def Obligations.AccessInStartingIsHeld : Prop :=
  (∀ (edge : ActiveEdge) (dir : Direction) (address : HostAddress) (data : Byte) (s : State),
     s.resetHeld = false → s.settled → s.part = .starting → s.port.access = none →
     activeDirection s.straps.style edge = some dir →
     exec (.hostAccessStart edge true address data) s = .next
       { s with port := { s.port with
           access := some
             { direction := dir, address := address, writeByte := none, decode := none, edgeTime := s.now
               waitDeadline := s.now
               holdDeadline := if s.settings.holdLimit = 0 then none else some (s.now + s.settings.holdLimit * 16000)
               status := .pending .handOff }
           writeLatch := if dir = .write then data else s.port.writeLatch
           readByte := if dir = .read then s.settings.fillByte else s.port.readByte } } ∧
     (s.latched dir address data).hwaitLow = true) ∧
  (∀ (edge : ActiveEdge) (ceLow : Bool) (address : HostAddress) (data : Byte) (s : State), s.settled →
     (ceLow = false ∨ s.port.access ≠ none ∨ activeDirection s.straps.style edge = none) →
     exec (.hostAccessStart edge ceLow address data) s = .next s) ∧
  ∀ (style : CycleStyle) (edge : ActiveEdge) (dir : Direction), activeDirection style edge = some dir ↔
    (style = .strobePair ∧ (edge = .rdsFall ∧ dir = .read ∨ edge = .wrsFall ∧ dir = .write)) ∨
    (style = .enable ∧ (edge = .enRise true ∧ dir = .read ∨ edge = .enRise false ∧ dir = .write))

/-- An access that no enabled region contains is refused UNMAPPED at its active edge, and a write in a READ_ONLY or
STREAM region is refused READ_ONLY with the region's wait; but for the Port and ACCESS_FAULT nothing changes: no watch,
buffer or marker is touched. A host address is decoded by an enabled region whose host range holds its page, and by none
where there is no such region; the decode is that region's number, device, policy and wait, with the device address as
far behind its device base as the host address is behind its host base. -/
def Obligations.UnservedAccessIsRefused : Prop :=
  (∀ (edge : ActiveEdge) (dir : Direction) (address : HostAddress) (data : Byte) (s : State),
     s.inService → s.settled → s.part = .running → s.port.access = none →
     activeDirection s.straps.style edge = some dir →
     (∀ n : Fin 8, s.regions[n].covers (address.toNat / 64) = false) →
     exec (.hostAccessStart edge true address data) s = .next ((s.latched dir address data).afterRefusal
       { s.newAccess dir address with writeByte := if dir = .write then some data else none } .unmapped)) ∧
  (∀ (edge : ActiveEdge) (address : HostAddress) (data : Byte) (d : Decode) (s : State),
     s.takesAccess edge .write address d → s.settled → (d.policy = .readOnly ∨ d.policy = .stream) →
     exec (.hostAccessStart edge true address data) s = .next
       ((s.latched .write address data).afterRefusal (s.decodedAccess .write address data d) .readOnly)) ∧
  ∀ (address : HostAddress) (s : State),
    (s.decode address = none ↔ ∀ n : Fin 8, s.regions[n].enabled = true → s.regions[n].hostBase ≤ address.toNat / 64 →
      s.regions[n].hostBase + s.regions[n].pageCount ≤ address.toNat / 64) ∧
    ∀ d, s.decode address = some d →
      s.regions[d.region].enabled = true ∧ s.regions[d.region].hostBase ≤ address.toNat / 64 ∧
      address.toNat / 64 < s.regions[d.region].hostBase + s.regions[d.region].pageCount ∧
      d.device = s.regions[d.region].device ∧
      d.address = s.regions[d.region].deviceBase * 64 + (address.toNat - s.regions[d.region].hostBase * 64) ∧
      d.policy = s.regions[d.region].policy ∧ d.wait = s.regions[d.region].wait

/-- A read of a byte that a resident buffer knows is completed at once with it, whatever the device's state, and the
buffer moves to the front of the recency list. A read of a byte that no buffer knows, with its device ABSENT or STUCK,
is refused DEVICE. Nothing else changes: nothing is allocated and no fetch requested. -/
def Obligations.ReadIsAnsweredAtOnce : Prop :=
  (∀ (edge : ActiveEdge) (address : HostAddress) (data v : Byte) (d : Decode) (b : Fin 16) (s : State),
     s.takesAccess edge .read address d → s.settled → d.policy ≠ .stream →
     s.findBuffer d.device (d.address / 64) = some b → s.knownByte d.device d.address = some v →
     exec (.hostAccessStart edge true address data) s = .next
       { s with
         recency := b :: s.recency.erase b
         port := { s.port with
           access := some { s.decodedAccess .read address data d with status := .done .completed }, readByte := v } }) ∧
  ∀ (edge : ActiveEdge) (address : HostAddress) (data : Byte) (d : Decode) (s : State),
    s.takesAccess edge .read address d → s.settled → d.policy ≠ .stream → s.knownByte d.device d.address = none →
    (s.devices[d.device].state = .absent ∨ s.devices[d.device].state = .stuck) →
    exec (.hostAccessStart edge true address data) s = .next
      ((s.latched .read address data).afterRefusal (s.decodedAccess .read address data d) .device)

/-- A read of a page that is not resident allocates the victim, CLEAN and pinned for that page, at the front of the
recency list, requests the page's fetch, and is held. The victim is the lowest-numbered FREE buffer, or where none is
FREE the least recent CLEAN unpinned one; there is none where no buffer is evictable. A WRITE_BACK access at an
unwatched address that needs a buffer then raises PRESSURE and is held for one, or is refused NO_BUFFER where every
buffer is FAILED or DIRTY and blocked; nothing else changes. That the buffer's bytes outside its valid map are zero is
log entry 9. -/
def Obligations.ReadOfAbsentPageFetches : Prop :=
  (∀ (edge : ActiveEdge) (address : HostAddress) (data : Byte) (d : Decode) (b : Fin 16) (s : State),
     s.takesAccess edge .read address d → s.coherent → d.policy ≠ .stream →
     s.findBuffer d.device (d.address / 64) = none → s.unreachable d.device = false → s.victim = some b → ∃ t,
     exec (.hostAccessStart edge true address data) s = .next t ∧
     t.port.access = some { s.decodedAccess .read address data d with status := .pending (.fetch b) } ∧
     t.hwaitLow = true ∧ t.port.fault = s.port.fault ∧ t.recency.head? = some b ∧
     t.buffers[b] =
       { PageBuffer.freed with state := .clean, tag := some ⟨d.device, d.address / 64⟩, fill := true } ∧
     { kind := .pageFetch b, device := d.device, start := d.address / 64 * 64, length := 64 } ∈ t.requests) ∧
  (∀ (edge : ActiveEdge) (dir : Direction) (address : HostAddress) (data : Byte) (d : Decode) (s : State),
     s.takesAccess edge dir address d → s.settled → d.policy = .writeBack → s.unwatched address →
     s.findBuffer d.device (d.address / 64) = none → (dir = .read → s.unreachable d.device = false) → s.victim = none →
     exec (.hostAccessStart edge true address data) s = .next
       (if ∀ b : Fin 16, s.buffers[b].state = .failed ∨ (s.buffers[b].state = .dirty ∧ s.blocked b = true) then
         { s.latched dir address data with flags := s.flags ||| EventFlag.pressure.mask }.afterRefusal
           (s.decodedAccess dir address data d) .noBuffer
       else
         ({ s.latched dir address data with flags := s.flags ||| EventFlag.pressure.mask }).setAccess
           (some { s.decodedAccess dir address data d with status := .pending .buffer }))) ∧
  ∀ s : State,
    (∀ b : Fin 16, s.victim = some b ↔
      (s.buffers[b].state = .free ∧ ∀ b' : Fin 16, b' < b → s.buffers[b'].state ≠ .free) ∨
      ((∀ b' : Fin 16, s.buffers[b'].state ≠ .free) ∧ s.buffers[b].state = .clean ∧ s.buffers[b].fill = false ∧
        b ∈ s.recency ∧ ∀ b' ∈ (s.recency.reverse.takeWhile fun b' => decide (b' ≠ b)),
          ¬ (s.buffers[b'].state = .clean ∧ s.buffers[b'].fill = false))) ∧
    (s.recencyGood → (s.victim = none ↔ ∀ b : Fin 16,
      s.buffers[b].state ≠ .free ∧ (s.buffers[b].state = .clean → s.buffers[b].fill = true)))

/-- A WRITE_BACK write at an unwatched address, whose page is resident with no marker behind its entry or is given the
victim, is applied and completed: the byte is valid, and dirty or, its commit having started at once, in flight; the
entry stands in the queue; the other bytes of the page and every other buffer's data stay. A write that makes the entry
appends it without a cause, with its region as commit region, attempts 0, and the age deadline of the region's age code;
a write that joins an entry leaves these, and but for the flush mark the queue, as they were. A write to a queued byte
of the stream, or into its burst, empties the queue and spoils the burst, the next fields, range limit and stall kept;
any other leaves the stream as it was. -/
def Obligations.WriteBackWriteIsApplied : Prop :=
  ∀ (edge : ActiveEdge) (address : HostAddress) (data : Byte) (d : Decode) (b : Fin 16) (s : State),
    s.takesAccess edge .write address d → s.coherent → d.policy = .writeBack → s.unwatched address →
    ((s.findBuffer d.device (d.address / 64) = some b ∧ Queue.markerBehind s.queue b = false) ∨
      (s.findBuffer d.device (d.address / 64) = none ∧ s.victim = some b)) → ∃ t,
    exec (.hostAccessStart edge true address data) s = .next t ∧
    t.port.access = some { s.decodedAccess .write address data d with status := .done .completed } ∧
    t.port.fault = s.port.fault ∧ t.recency.head? = some b ∧ Queue.hasEntry t.queue b = true ∧
    t.buffers[b].tag = some ⟨d.device, d.address / 64⟩ ∧
    t.buffers[b].data[d.address % 64]? = some data ∧ t.buffers[b].valid.getLsbD (d.address % 64) = true ∧
    (t.buffers[b].dirty ||| t.buffers[b].inFlight).getLsbD (d.address % 64) = true ∧
    (s.findBuffer d.device (d.address / 64) = some b → ∀ i, i ≠ d.address % 64 →
      t.buffers[b].data[i]? = s.buffers[b].data[i]?) ∧
    (∀ b' : Fin 16, b' ≠ b → t.buffers[b'].data = s.buffers[b'].data) ∧
    (s.inGuardedRange d.device d.address → t.stream =
      { s.stream with queue := [], burst := s.stream.burst.map fun u => { u with spoiled := true } }) ∧
    (¬ s.inGuardedRange d.device d.address → t.stream = s.stream) ∧
    (Queue.hasEntry s.queue b = false →
      t.queue.getLast? = some (.buffer b false false) ∧ t.buffers[b].commitRegion = some d.region ∧
      t.buffers[b].attempts = 0 ∧ t.buffers[b].ageDeadline =
        if s.regions[d.region].ageCode = 0 then none
        else some (s.now + 2 ^ (s.regions[d.region].ageCode - 1) * 16000)) ∧
    (Queue.hasEntry s.queue b = true →
      Queue.unmark t.queue = Queue.unmark s.queue ∧ t.buffers[b].commitRegion = s.buffers[b].commitRegion ∧
      t.buffers[b].attempts = s.buffers[b].attempts ∧ t.buffers[b].ageDeadline = s.buffers[b].ageDeadline)

/-- A WRITE_BACK write that makes an entry, or joins one behind which neither a marker stands nor a barrier-before
action puts one, completes every watch on its address: last-match takes the test, and a trigger raises the watch's flag
and takes its actions: commit pushes the write's entry, barrier-before has put a marker before it where the queue was
not empty, barrier-after puts one behind it. A watch that does not look at the address is unchanged. Where a
barrier-before action puts a marker behind the entry of the write's page, the write is refused BUFFER_FAILED, its buffer
being FAILED or its entry blocked, or held (no device being ABSENT) with its entry pushed; the marker stays, and no
watch is completed. A watch triggers as the table of R149 says. -/
def Obligations.WatchesFollowTheWrite : Prop :=
  (∀ (edge : ActiveEdge) (address : HostAddress) (data : Byte) (d : Decode) (b : Fin 16) (s : State),
     s.takesAccess edge .write address d → s.coherent → d.policy = .writeBack →
     (Queue.hasEntry s.queue b = false ∨ (Queue.markerBehind s.queue b = false ∧
       ∀ n : Fin 8, s.watches[n].watchesAddress address = true → s.watches[n].triggers data = true →
         s.watches[n].barrierBefore = false)) →
     (s.findBuffer d.device (d.address / 64) = some b ∨
       (s.findBuffer d.device (d.address / 64) = none ∧ s.victim = some b)) → ∃ t,
     exec (.hostAccessStart edge true address data) s = .next t ∧
     t.port.access = some { s.decodedAccess .write address data d with status := .done .completed } ∧
     ∀ n : Fin 8,
       (s.watches[n].watchesAddress address = true →
         t.watches[n] = { s.watches[n] with lastMatch := s.watches[n].isMatch data } ∧
         (s.watches[n].triggers data = true → t.flagSet (.watch n) = true ∧
           (s.watches[n].commit = true → Queue.pushed t.queue b = true) ∧
           (s.watches[n].barrierBefore = true → s.queue ≠ [] → Queue.markerBefore t.queue b = true) ∧
           (s.watches[n].barrierAfter = true → Queue.markerBehind t.queue b = true)) ∧
         (s.watches[n].triggers data = false → t.flagSet (.watch n) = s.flagSet (.watch n))) ∧
       (s.watches[n].watchesAddress address = false →
         t.watches[n] = s.watches[n] ∧ t.flagSet (.watch n) = s.flagSet (.watch n))) ∧
  (∀ (edge : ActiveEdge) (address : HostAddress) (data : Byte) (d : Decode) (b : Fin 16) (n : Fin 8) (s : State),
     s.takesAccess edge .write address d → s.coherent → d.policy = .writeBack →
     s.findBuffer d.device (d.address / 64) = some b → Queue.hasEntry s.queue b = true →
     s.watches[n].watchesAddress address = true → s.watches[n].triggers data = true →
     s.watches[n].barrierBefore = true →
     (s.isFailed b = true ∨ s.blocked b = true ∨ ∀ e : Fin 4, s.devices[e].state ≠ .absent) → ∃ t,
     exec (.hostAccessStart edge true address data) s = .next t ∧ t.watches = s.watches ∧
     Queue.markerBehind t.queue b = true ∧
     (∀ b' : Fin 16, t.buffers[b'].data = s.buffers[b'].data ∧ t.buffers[b'].valid = s.buffers[b'].valid) ∧
     (s.isFailed b = true ∨ s.blocked b = true → t.port.access =
       some { s.decodedAccess .write address data d with status := .done (.refused .bufferFailed) }) ∧
     (s.isFailed b = false → s.blocked b = false → t.port.access =
       some { s.decodedAccess .write address data d with status := .pending (.crossGeneration b) } ∧
       Queue.pushed t.queue b = true)) ∧
  ∀ (w : Watch) (v : Byte),
    (w.triggers v = true ↔
      (w.polarity = .leave ∧ w.lastMatch = true ∧ v &&& w.mask ≠ w.compare &&& w.mask) ∨
      (w.polarity = .enter ∧ w.lastMatch = false ∧ v &&& w.mask = w.compare &&& w.mask))

/-- A write whose page has an entry with a marker behind it: FAILED or blocked, it is refused BUFFER_FAILED and nothing
is applied; otherwise it is held as a cross-generation write, its byte not applied and its entry given PUSH (no device
being ABSENT, no entry fails in the same step). -/
def Obligations.WriteWithAMarkerBehindItsEntry : Prop :=
  (∀ (edge : ActiveEdge) (address : HostAddress) (data : Byte) (d : Decode) (b : Fin 16) (s : State),
     s.takesAccess edge .write address d → s.settled → d.policy = .writeBack → s.unwatched address →
     s.findBuffer d.device (d.address / 64) = some b → Queue.hasEntry s.queue b = true →
     Queue.markerBehind s.queue b = true → (s.buffers[b].state = .failed ∨ s.blocked b = true) →
     exec (.hostAccessStart edge true address data) s = .next
       ((s.latched .write address data).afterRefusal (s.decodedAccess .write address data d) .bufferFailed)) ∧
  ∀ (edge : ActiveEdge) (address : HostAddress) (data : Byte) (d : Decode) (b : Fin 16) (s : State),
    s.takesAccess edge .write address d → s.coherent → d.policy = .writeBack → s.unwatched address →
    (∀ e : Fin 4, s.devices[e].state ≠ .absent) →
    s.findBuffer d.device (d.address / 64) = some b → Queue.hasEntry s.queue b = true →
    Queue.markerBehind s.queue b = true → s.buffers[b].state ≠ .failed → s.blocked b = false → ∃ t,
    exec (.hostAccessStart edge true address data) s = .next t ∧
    t.port.access = some { s.decodedAccess .write address data d with status := .pending (.crossGeneration b) } ∧
    t.hwaitLow = true ∧ Queue.pushed t.queue b = true ∧ t.watches = s.watches ∧
    ∀ b' : Fin 16, t.buffers[b'].data = s.buffers[b'].data ∧ t.buffers[b'].valid = s.buffers[b'].valid

/-- A WRITE_THROUGH write that makes an entry (no device being ABSENT) takes a barrier first, is applied, has its entry
pushed, and is held for it; behind entries it stands behind a marker. -/
def Obligations.WriteThroughWriteWaitsForItsEntry : Prop :=
  ∀ (edge : ActiveEdge) (address : HostAddress) (data : Byte) (d : Decode) (b : Fin 16) (s : State),
    s.takesAccess edge .write address d → s.coherent → d.policy = .writeThrough → s.unwatched address →
    (∀ e : Fin 4, s.devices[e].state ≠ .absent) → Queue.hasEntry s.queue b = false →
    (s.findBuffer d.device (d.address / 64) = some b ∨
      (s.findBuffer d.device (d.address / 64) = none ∧ s.victim = some b)) → ∃ t,
    exec (.hostAccessStart edge true address data) s = .next t ∧
    t.port.access = some { s.decodedAccess .write address data d with status := .pending (.entry b) } ∧
    t.hwaitLow = true ∧ Queue.pushed t.queue b = true ∧ (s.queue ≠ [] → Queue.markerBefore t.queue b = true) ∧
    t.buffers[b].data[d.address % 64]? = some data

/-- A STREAM read that does not match the stream returns the last byte, unchanged, and sets the stream up at its
address, with no stall left from before: the queue is emptied and, where no burst is on the link, a refill is planned
from its address on; a burst on the link is spoiled, and no refill planned. -/
def Obligations.ResynchronisingReadReturnsLastByte : Prop :=
  ∀ (edge : ActiveEdge) (address : HostAddress) (data : Byte) (d : Decode) (s : State),
    s.takesAccess edge .read address d → d.policy = .stream →
    s.stream.context.all (fun c => !c.matches address d) = true → ∃ t,
    exec (.hostAccessStart edge true address data) s = .next t ∧
    t.port.access = some { s.decodedAccess .read address data d with status := .done .completed } ∧
    t.port.readByte = s.stream.lastByte ∧ t.stream.lastByte = s.stream.lastByte ∧
    t.stream.context = some
      { hostAddress := address.toNat, region := d.region, device := d.device, address := d.address,
        limit := (s.regions[d.region].deviceBase + s.regions[d.region].pageCount) * 64 - 1 } ∧
    (s.unreachable d.device = false → t.stream.stall = none) ∧
    (s.stream.burst.all (fun u => s.requested .streamRead u.device) = true → s.refilled
      { hostAddress := address.toNat, region := d.region, device := d.device, address := d.address,
        limit := (s.regions[d.region].deviceBase + s.regions[d.region].pageCount) * 64 - 1 } [] t) ∧
    (∀ u, s.stream.burst = some u → s.requested .streamRead u.device = false →
      t.stream.queue = [] ∧ t.stream.stall = none ∧ t.stream.burst = some { u with spoiled := true })

/-- A STREAM read that matches a READY stream is completed with the head byte, which becomes the last byte; the next
addresses advance by one, or the stream becomes IDLE after the byte at the range limit. A refill is then planned behind
the bytes left, unless a burst exists or a stall is recorded. -/
def Obligations.ServedStreamReadAdvances : Prop :=
  ∀ (edge : ActiveEdge) (address : HostAddress) (data v : Byte) (rest : List Byte) (c : StreamContext) (d : Decode)
    (s : State),
    s.takesAccess edge .read address d → s.settled → d.policy = .stream → s.stream.context = some c →
    c.matches address d = true → s.stream.queue = v :: rest → ∃ t,
    exec (.hostAccessStart edge true address data) s = .next t ∧
    t.port.access = some { s.decodedAccess .read address data d with status := .done .completed } ∧
    t.port.readByte = v ∧ t.stream.lastByte = v ∧ t.buffers = s.buffers ∧ t.recency = s.recency ∧
    (c.address = c.limit → t.stream.context = none ∧ t.stream.queue = [] ∧ t.stream.stall = none) ∧
    (c.address ≠ c.limit → rest <+: t.stream.queue ∧
      t.stream.context = some { c with hostAddress := c.hostAddress + 1, address := c.address + 1 } ∧
      (s.stream.burst = none → s.stream.stall = none →
        s.refilled { c with hostAddress := c.hostAddress + 1, address := c.address + 1 } rest t) ∧
      (s.stream.burst ≠ none ∨ s.stream.stall ≠ none →
        t.stream.queue = rest ∧ t.stream.burst = s.stream.burst ∧ t.stream.stall = s.stream.stall))

/-- The trailing edge or CE# rising ends a DONE access; nothing else changes. A PENDING access is withdrawn: the Port is
IDLE, and neither the fault record nor the read byte changes. A fetch that the withdrawn read waited on is cancelled
where it has not started and the Engine does not wait on it: its fill flag is clear, and its buffer freed where nothing
is known; any other fetch goes on. The edges that end an access are CE# rising, the rising edge of the read or write
strobe in strobe-pair style, and EN falling in enable style; another edge changes nothing (log entry 26). That a freed
buffer's bytes are zero is log entry 9. -/
def Obligations.AccessEndsFromTheHostSide : Prop :=
  (∀ (edge : EndEdge) (a : Access) (s : State), s.resetHeld = false → s.port.access = some a →
     endsAccess s.straps.style a.direction edge = true →
     (∀ o, a.status = .done o → s.settled →
       exec (.hostAccessEnd edge) s = .next { s with port := { s.port with access := none } }) ∧
     (∀ w, a.status = .pending w → ∃ t,
       exec (.hostAccessEnd edge) s = .next t ∧ t.port = { s.port with access := none } ∧ t.hwaitLow = false ∧
       (∀ b, w = .fetch b → s.settled → s.coherent →
         s.inStage b .fill = false → s.requests.any (fun o => decide (o.kind = .pageFetch b)) = true →
         t.requests.all (fun o => decide (o.kind ≠ .pageFetch b)) = true ∧
         (s.buffers[b].valid = 0 → t.buffers[b] = PageBuffer.freed ∧ b ∉ t.recency) ∧
         (s.buffers[b].valid ≠ 0 → t.buffers[b] = { s.buffers[b] with fill := false })) ∧
       (∀ b, w = .fetch b → s.settled →
         (s.inStage b .fill = true ∨ s.requests.any (fun o => decide (o.kind = .pageFetch b)) = false) →
         t.buffers = s.buffers ∧ t.requests = s.requests ∧ t.link = s.link))) ∧
  (∀ (edge : EndEdge) (s : State), s.settled →
     s.port.access.all (fun a => !endsAccess s.straps.style a.direction edge) = true →
     exec (.hostAccessEnd edge) s = .next s) ∧
  ∀ (style : CycleStyle) (dir : Direction) (edge : EndEdge), endsAccess style dir edge = true ↔
    edge = .ceRise ∨ (style = .enable ∧ edge = .enFall) ∨
    (style = .strobePair ∧ (dir = .read ∧ edge = .rdsRise ∨ dir = .write ∧ edge = .wrsRise))

/-- The wait deadline of a DONE access passes: the clock stands at it at least, and HWAIT# is released. The clock's
value is the model's (log entry 1). -/
def Obligations.WaitDeadlineReleasesHwait : Prop :=
  ∀ (a : Access) (o : AccessOutcome) (s : State), s.resetHeld = false → s.settled → s.port.access = some a →
    a.status = .done o →
    exec .waitDeadline s = .next { s with now := max s.now a.waitDeadline } ∧
    State.hwaitLow { s with now := max s.now a.waitDeadline } = false

/-- The hold deadline of a PENDING access passes: it is refused HOLD_LIMIT, with the effects of a refusal. The fault
record takes a refusal: an empty record captures the access, a full one keeps its fields and sets overflow. The
clock's value is the model's (log entry 1). -/
def Obligations.HoldDeadlineRefuses : Prop :=
  (∀ (a : Access) (w : Wait) (deadline : Time) (s : State), s.resetHeld = false → s.port.access = some a →
     a.status = .pending w → a.holdDeadline = some deadline → ∃ t,
     exec .holdDeadline s = .next t ∧ t.now = max s.now deadline ∧
     t.port.access = some { a with status := .done (.refused .holdLimit) } ∧
     t.port.fault = s.port.fault.capture a .holdLimit ∧
     (a.direction = .read → t.port.readByte = s.settings.fillByte) ∧ t.flagSet .accessFault = true) ∧
  ∀ (f : FaultRecord) (a : Access) (c : Cause),
    (f.full = false → f.capture a c =
      { full := true, address := a.address, direction := a.direction, cause := some c, overflow := false }) ∧
    (f.full = true → f.capture a c = { f with overflow := true })

/-! ### Page link -/

/-- With the link idle, the arbiter's choice leaves the request set and is on the link, a read in the current-address
form exactly when the counter equals its start; nothing else changes. The arbiter's choice is a step of its own (log
entry 5). -/
def Obligations.ArbiterStartsItsChoice : Prop :=
  ∀ (o : Operation) (s : State), s.resetHeld = false → s.settled → s.link = none → s.choose = some o →
    exec .arbiterStart s = .next
      { s with
        requests := s.requests.erase o
        link := some
          { operation := o
            form := match o.kind with
              | .program _ => .program
              | .poll => .selectOnly
              | .probeSelect => .selectOnly
              | .pageFetch _ | .streamRead | .checkRead _ | .descriptorRead =>
                if s.devices[o.device].counter = some o.start then .currentRead else .addressedRead
            attempts := 1, selectErrors := 0, attemptStart := s.now, hasRequester := true, counterLost := false } }

/-- The arbiter takes an operation it may start, wherever the request set holds one, and no operation it may start
stands in a class before it, or before it in its own class. It may start a poll with no probe of its device in progress,
a probe select with one in progress and the device not PROGRAMMING, and any other operation for a READY device without a
probe. An operation is DEMAND while the host access is held on it, the descriptor read always. Polls are ordered by due
time and then device, COMMIT operations by the places of their entries, probe selects by device. The due time of a poll
is that of its device record (log entry 30). -/
def Obligations.ArbiterTakesTheFirstItMayStart : Prop :=
  (∀ (s : State) (o : Operation), s.choose = some o →
     o ∈ s.requests ∧ s.mayStart o = true ∧
     ∀ o' ∈ s.requests, s.mayStart o' = true →
       (s.classOf o).rank < (s.classOf o').rank ∨ (s.classOf o = s.classOf o' ∧ s.rankOf o ≤ s.rankOf o')) ∧
  (∀ (s : State) (o : Operation), o ∈ s.requests → s.mayStart o = true → s.choose.isSome = true) ∧
  (∀ (s : State) (o : Operation), s.mayStart o = true ↔
     (o.kind = .poll ∧ s.devices[o.device].probe = none) ∨
     (o.kind = .probeSelect ∧ s.devices[o.device].probe ≠ none ∧ s.devices[o.device].state ≠ .programming) ∨
     (o.kind ≠ .poll ∧ o.kind ≠ .probeSelect ∧ s.devices[o.device].state = .ready ∧ s.devices[o.device].probe = none)) ∧
  (∀ (s : State) (o : Operation), s.classOf o =
     match o.kind with
     | .pageFetch b => if s.waiting = some (.fetch b) then .demand else .commit
     | .streamRead => if s.waiting = some .streamByte then .demand else .prefetch
     | .descriptorRead => .demand
     | .program _ => .commit
     | .checkRead _ => .commit
     | .poll => .poll
     | .probeSelect => .probe) ∧
  (LinkClass.demand.rank < LinkClass.poll.rank ∧ LinkClass.poll.rank < LinkClass.commit.rank ∧
     LinkClass.commit.rank < LinkClass.prefetch.rank ∧ LinkClass.prefetch.rank < LinkClass.probe.rank) ∧
  ∀ (s : State) (o o' : Operation),
    (o.kind = .poll → o'.kind = .poll → ∀ due due', s.devices[o.device].pollDue = some due →
      s.devices[o'.device].pollDue = some due' →
      (s.rankOf o ≤ s.rankOf o' ↔ due < due' ∨ (due = due' ∧ o.device ≤ o'.device))) ∧
    (∀ b b' place place', o.kind.servedBuffer = some b → o'.kind.servedBuffer = some b' →
      s.queue.findIdx? (·.isFor b) = some place → s.queue.findIdx? (·.isFor b') = some place' →
      (s.rankOf o ≤ s.rankOf o' ↔ place ≤ place')) ∧
    (o.kind = .probeSelect → o'.kind = .probeSelect → (s.rankOf o ≤ s.rankOf o' ↔ o.device ≤ o'.device))

/-- The bytes the KL-416 sends (R110 to R114): the select byte, the address bytes, and the span's copy for a program. -/
def Obligations.SentBytesSpellTheTransfer : Prop :=
  ∀ (s : State) (o : Operation), o.start < 131072 →
    let select : Byte := BitVec.ofNat 8 (0xC0 + 8 * o.device.val + 2 * (o.start / 65536))
    let high : Byte := BitVec.ofNat 8 (o.start / 256)
    let low : Byte := BitVec.ofNat 8 o.start
    (∀ x, s.transmit[o.device] = some x → s.sentBytes o .program = [select, high, low] ++ x.bytes) ∧
    s.sentBytes o .addressedRead = [select, high, low, select ||| 1] ∧
    s.sentBytes o .currentRead = [select ||| 1] ∧
    s.sentBytes o .selectOnly = [BitVec.ofNat 8 (0xC0 + 8 * o.device.val)]

/-- A page fetch completes. A read held on it is completed with the byte now at its offset, the fetched one unless
the offset was valid before. With no access waiting, every offset not valid takes the fetched byte and all 64 are
valid, the fill flag is clear, the tag stays, and the address counter stands behind the page, unless a capacity
change keeps it UNKNOWN. The clock's value is the model's (log entries 1, 11). -/
def Obligations.PageFetchMergesAndAnswers : Prop :=
  (∀ (data : PageBytes) (l : LinkOperation) (b : Fin 16) (a : Access) (d : Decode) (s : State),
     s.inService → s.runs l (.pageFetch b) → l.hasRequester = true → s.port.access = some a → a.direction = .read →
     a.status = .pending (.fetch b) → a.decode = some d → ∃ t,
     exec (.pageFetchComplete data) s = .next t ∧ t.link = none ∧
     t.port.access = some { a with status := .done .completed } ∧
     some t.port.readByte = (if s.buffers[b].valid.getLsbD (d.address % 64) then s.buffers[b].data[d.address % 64]?
       else data[d.address % 64]?) ∧
     t.port.fault = s.port.fault) ∧
  ∀ (data : PageBytes) (l : LinkOperation) (b : Fin 16) (s : State),
    s.inService → s.runs l (.pageFetch b) → l.hasRequester = true → s.waiting = none → ∃ t,
    exec (.pageFetchComplete data) s = .next t ∧ t.link = none ∧
    (∀ i : Fin 64, t.buffers[b].data[i] = if s.buffers[b].valid.getLsbD i then s.buffers[b].data[i] else data[i]) ∧
    t.buffers[b].valid = BitVec.allOnes 64 ∧ t.buffers[b].fill = false ∧ t.buffers[b].tag = s.buffers[b].tag ∧
    (s.devices[l.operation.device].state ≠ .absent → t.devices[l.operation.device].counter =
      if l.counterLost then none
      else some ((l.operation.start + l.operation.length) % (s.devices[l.operation.device].capacity.pages * 64))) ∧
    t.now = max s.now l.endTime

/-- A transfer error before the third attempt: the counter is UNKNOWN and the next attempt follows at once, a read in
the addressed form, a program as before; nothing else changes. The clock and the byte index are the model's (log
entries 1, 11, 12). -/
def Obligations.TransferErrorIsRetried : Prop :=
  ∀ (i : Nat) (l : LinkOperation) (s : State), s.resetHeld = false → s.settled → s.link = some l →
    l.operation.kind ≠ .poll → l.operation.kind ≠ .probeSelect → i < sentCount l.form l.operation.length →
    l.attempts < 3 →
    exec (.transferError i) s = .next
      { s with
        now := max s.now (l.attemptStart + brokenPeriods l.form i * 16)
        devices := s.devices.set l.operation.device { s.devices[l.operation.device] with counter := none }
        link := some { l with
          form := match l.operation.kind with
            | .program _ => .program
            | _ => .addressedRead
          attempts := l.attempts + 1
          selectErrors := if i = 0 then l.selectErrors + 1 else l.selectErrors
          attemptStart := max s.now (l.attemptStart + brokenPeriods l.form i * 16)
          counterLost := false } }

/-- A transfer error in the third attempt ends the operation and leaves the counter UNKNOWN: all three at the select
byte make a READY device STUCK, polled 10 ms later, with DEVICE_FAULT, and the cause is DEVICE; otherwise the device
keeps its state, and the cause is FETCH_FAILED. A read held on the page fetch, or on the burst, is refused with the
cause. With no access waiting: a commit whose operation it was counts an attempt, its in-flight bytes dirty again, and
is FAILED at the third, DIRTY for the STUCK device, and goes on otherwise in RUNNING; a burst that is not spoiled leaves
the cause as stall. The clock and the byte index are the model's (log entries 1, 11, 12). That a demand read waiting on
a spoiled burst is refused as well is log entry 15. -/
def Obligations.ThirdTransferErrorFailsTheOperation : Prop :=
  ∀ (i : Nat) (l : LinkOperation) (s : State), s.inService → s.link = some l →
    l.operation.kind ≠ .poll → l.operation.kind ≠ .probeSelect → i < sentCount l.form l.operation.length →
    l.attempts = 3 → l.selectErrors ≤ 2 → s.devices[l.operation.device].state = .ready → ∃ t,
    exec (.transferError i) s = .next t ∧ t.link = none ∧
    t.now = max s.now (l.attemptStart + brokenPeriods l.form i * 16) ∧
    (i = 0 → l.selectErrors = 2 → t.flagSet .deviceFault = true ∧ t.devices[l.operation.device] =
      { s.devices[l.operation.device] with
        state := .stuck, counter := none, timeout := none, pollDue := some (t.now + 160000) }) ∧
    ((i ≠ 0 ∨ l.selectErrors < 2) → t.devices[l.operation.device] =
      { s.devices[l.operation.device] with counter := none }) ∧
    (∀ b a, l.operation.kind = .pageFetch b → l.hasRequester = true → s.port.access = some a →
      a.status = .pending (.fetch b) → t.port.access = some { a with
        status := .done (.refused (if i = 0 ∧ l.selectErrors = 2 then .device else .fetchFailed)) }) ∧
    (∀ b, l.operation.kind.servedBuffer = some b → s.waiting = none → s.coherent →
      s.deviceOfBuffer b = some l.operation.device →
      (s.inStage b .fill = true ∧ l.hasRequester = true ∧ l.operation.kind = .pageFetch b ∨
        s.inStage b .send = true ∧ l.operation.kind = .program b ∨
        s.inStage b .check = true ∧ l.operation.kind = .checkRead b) →
      t.buffers[b].attempts = s.buffers[b].attempts + 1 ∧ Queue.hasEntry t.queue b = true ∧
      t.buffers[b].dirty ||| t.buffers[b].inFlight = s.buffers[b].dirty ||| s.buffers[b].inFlight ∧
      (s.buffers[b].attempts = 2 → t.buffers[b].state = .failed ∧ t.flagSet .commitFail = true) ∧
      (s.buffers[b].attempts ≠ 2 → i = 0 → l.selectErrors = 2 → t.buffers[b].state = .dirty) ∧
      (s.buffers[b].attempts ≠ 2 → (i ≠ 0 ∨ l.selectErrors < 2) → s.part = .running →
        t.buffers[b].state = .committing)) ∧
    (∀ u, l.operation.kind = .streamRead → s.stream.burst = some u →
      (u.spoiled = false → s.waiting = none → t.stream = { s.stream with
        burst := none, stall := some (if i = 0 ∧ l.selectErrors = 2 then .device else .fetchFailed) }) ∧
      (u.spoiled = true → s.stream.context = none → s.waiting = none →
        t.stream = { s.stream with burst := none }) ∧
      ∀ a, s.port.access = some a → a.status = .pending .streamByte → t.port.access = some { a with
        status := .done (.refused (if i = 0 ∧ l.selectErrors = 2 then .device else .fetchFailed)) })

/-- A program operation completes: the commit enters BUSY and the device is PROGRAMMING, its first poll due 250 µs and
its timeout one program timeout setting after the end of the transfer; the transmit store's copy is released, and the
address counter stands behind the span within its page, 63 being followed by 0, unless a capacity change keeps it
UNKNOWN. The clock's value is the model's (log entries 1, 11). -/
def Obligations.ProgramCompletionMakesDeviceProgramming : Prop :=
  ∀ (l : LinkOperation) (b : Fin 16) (s : State),
    s.inService → s.runs l (.program b) → s.inStage b .send = true → ∃ t,
    exec .programComplete s = .next t ∧ t.link = none ∧ t.now = max s.now l.endTime ∧
    t.devices[l.operation.device].state = .programming ∧
    t.devices[l.operation.device].pollDue = some (t.now + 4000) ∧
    t.devices[l.operation.device].timeout = some (t.now + s.settings.programTimeout * 16000) ∧
    t.buffers[b].state = .committing ∧ t.buffers[b].stage = some .busy ∧
    t.transmit[l.operation.device] = none ∧
    (s.devices[l.operation.device].state ≠ .absent → t.devices[l.operation.device].counter =
      if l.counterLost then none
      else some (l.operation.start / 64 * 64 + (l.operation.start % 64 + l.operation.length) % 64))

/-- A poll due time makes one poll of the device join the request set. An acknowledged poll of a PROGRAMMING or STUCK
device makes it READY with no poll due and no timeout, and with its counter UNKNOWN where it was STUCK (log entry 29). A
refused one sets the next due time: 250 µs after its end for a PROGRAMMING device, 10 ms for a STUCK one with no probe
in progress. Nothing else changes. The clock's value is the model's (log entries 1, 11). -/
def Obligations.PollsAreAnswered : Prop :=
  (∀ (d : Fin 4) (due : Time) (s : State), s.resetHeld = false → s.settled → s.devices[d].pollDue = some due →
     exec (.pollDue d) s = .next
       (if s.devices[d].probe.isSome || s.requested .poll d || s.onLink .poll d then s
       else { s with
         now := max s.now due, requests := s.requests ++ [{ kind := .poll, device := d, start := 0, length := 0 }] })) ∧
  (∀ (l : LinkOperation) (s : State), s.inService → s.devicesGood → s.runs l .poll →
     (s.devices[l.operation.device].state = .programming ∨ s.devices[l.operation.device].state = .stuck) → ∃ t,
     exec .pollAcknowledge s = .next t ∧ t.link = none ∧ t.now = max s.now l.endTime ∧
     t.devices[l.operation.device] =
       { s.devices[l.operation.device] with
         state := .ready, pollDue := none, timeout := none
         counter := if s.devices[l.operation.device].state = .stuck then none
           else s.devices[l.operation.device].counter }) ∧
  ∀ (l : LinkOperation) (interval : Time) (s : State), s.resetHeld = false → s.settled → s.runs l .poll →
    (s.devices[l.operation.device].state = .programming ∧ interval = 4000 ∨
      s.devices[l.operation.device].state = .stuck ∧ s.devices[l.operation.device].probe = none ∧ interval = 160000) →
    exec .pollRefuse s = .next
      { s with
        now := max s.now l.endTime
        link := none
        devices := s.devices.set l.operation.device
          { s.devices[l.operation.device] with pollDue := some (max s.now l.endTime + interval) } }

/-- An acknowledged poll ends BUSY: with verify off or in HOLDUP, and nothing rewritten, the commit ends well: with no
access waiting the buffer becomes CLEAN and its entry leaves the queue, a write held for that entry is applied and
answered, a write-through access waiting on it is completed, and an access waiting for a buffer takes this one; where
bytes were rewritten, and no access waits, the buffer is DIRTY again, its entry as it was, and with an own cause wanted
again, its new commit started at once in RUNNING where no other buffer of the device is DIRTY or COMMITTING; with verify
on in RUNNING, and no access waiting, the commit enters CHECK and a read of its span is requested. -/
def Obligations.PollAcknowledgeEndsBusy : Prop :=
  ∀ (l : LinkOperation) (b : Fin 16) (x : SendRecord) (g : Tag) (s : State),
    s.inService → s.runs l .poll → s.devices[l.operation.device].state = .programming →
    s.committingIn l.operation.device .busy = some b → s.buffers[b].sent = some x → s.buffers[b].tag = some g → ∃ t,
    exec .pollAcknowledge s = .next t ∧
    (x.verify = false ∨ s.part = .holdup → s.buffers[b].dirty = 0 → s.waiting = none → t.buffers[b] =
      { s.buffers[b] with
        state := .clean, inFlight := 0, stage := none, sent := none, commitRegion := none, ageDeadline := none } ∧
      Queue.hasEntry t.queue b = false) ∧
    (x.verify = false ∨ s.part = .holdup → s.buffers[b].dirty = 0 → s.entryWaiterAnswered t b) ∧
    (x.verify = false ∨ s.part = .holdup → s.buffers[b].dirty ≠ 0 → s.waiting = none → s.coherent →
      s.keepsRewrittenEntry t b) ∧
    (x.verify = false ∨ s.part = .holdup → s.buffers[b].dirty = 0 → s.buffers[b].fill = false → s.coherent →
      s.victim = none → ∀ a d, s.port.access = some a → a.status = .pending .buffer → a.decode = some d →
      s.findBuffer d.device (d.address / 64) = none → (a.direction = .read → s.unreachable d.device = false) →
      t.buffers[b].tag = some ⟨d.device, d.address / 64⟩ ∧
      (a.direction = .read →
        t.port.access = some { a with status := .pending (.fetch b) } ∧
        { kind := .pageFetch b, device := d.device, start := d.address / 64 * 64, length := 64 } ∈ t.requests) ∧
      (∀ v, a.direction = .write → a.writeByte = some v → d.policy = .writeBack →
        t.port.access = some { a with status := .done .completed } ∧
        t.buffers[b].data[d.address % 64]? = some v ∧ Queue.hasEntry t.queue b = true)) ∧
    (x.verify = true → s.part = .running → s.waiting = none →
      t.buffers[b] = { s.buffers[b] with stage := some .check } ∧
      { kind := .checkRead b, device := g.device, start := g.page * 64 + x.first, length := x.length } ∈ t.requests)

/-- The timeout deadline of a PROGRAMMING device passes: it is STUCK, polled 10 ms later, its address counter UNKNOWN
(log entry 29), and the buffer in BUSY is FAILED with its attempts unchanged and its in-flight bytes dirty again;
DEVICE_FAULT and COMMIT_FAIL are raised. A write held for the buffer's entry and a write-through access waiting on it
are refused BUFFER_FAILED, and an access waiting for a buffer is refused NO_BUFFER where every buffer is now FAILED. The
clock's value is the model's (log entry 1). -/
def Obligations.ProgramTimeoutFailsTheBuffer : Prop :=
  ∀ (d : Fin 4) (deadline : Time) (b : Fin 16) (s : State), s.inService → s.coherent →
    s.devices[d].state = .programming → s.devices[d].timeout = some deadline → s.committingIn d .busy = some b → ∃ t,
    exec (.programTimeout d) s = .next t ∧ t.now = max s.now deadline ∧
    t.devices[d] =
      { s.devices[d] with state := .stuck, counter := none, timeout := none, pollDue := some (t.now + 160000) } ∧
    t.buffers[b].state = .failed ∧ t.buffers[b].attempts = s.buffers[b].attempts ∧
    (s.waiting = none → t.buffers[b].dirty = s.buffers[b].dirty ||| s.buffers[b].inFlight) ∧
    Queue.hasEntry t.queue b = true ∧ t.flagSet .deviceFault = true ∧ t.flagSet .commitFail = true ∧
    ∀ a, s.port.access = some a →
      (a.status = .pending (.crossGeneration b) ∨ a.status = .pending (.entry b) →
        t.port.access = some { a with status := .done (.refused .bufferFailed) } ∧
        t.port.fault = s.port.fault.capture a .bufferFailed ∧ t.flagSet .accessFault = true) ∧
      (a.status = .pending .buffer → (∀ b' : Fin 16, b' ≠ b → s.buffers[b'].state = .failed) →
        t.port.access = some { a with status := .done (.refused .noBuffer) })

/-- The CHECK read of a READY device completes: where every in-flight byte agrees and nothing was rewritten, the commit
ends well: with no access waiting the buffer is CLEAN and its entry gone, and an access waiting on the entry's removal
is answered. Where bytes were rewritten, and no access waits, the buffer is DIRTY again, its entry as it was, and with
an own cause wanted again, its new commit started at once in RUNNING where no other buffer of the device is DIRTY or
COMMITTING. Where one byte differs, and no access waits, attempts rise by one, and the third makes the buffer FAILED. -/
def Obligations.CheckReadDecidesTheCommit : Prop :=
  ∀ (data : PageBytes) (l : LinkOperation) (b : Fin 16) (s : State),
    s.inService → s.coherent → s.runs l (.checkRead b) → s.inStage b .check = true →
    s.devices[l.operation.device].state = .ready → s.deviceOfBuffer b = some l.operation.device → ∃ t,
    exec (.checkReadComplete data) s = .next t ∧ t.link = none ∧
    (s.waiting = none → s.buffers[b].agrees (l.operation.start % 64) data = true → s.buffers[b].dirty = 0 →
      t.buffers[b].state = .clean ∧ t.buffers[b].inFlight = 0 ∧ t.buffers[b].data = s.buffers[b].data ∧
      Queue.hasEntry t.queue b = false) ∧
    (s.buffers[b].agrees (l.operation.start % 64) data = true → s.buffers[b].dirty = 0 → s.entryWaiterAnswered t b) ∧
    (s.waiting = none → s.buffers[b].agrees (l.operation.start % 64) data = true → s.buffers[b].dirty ≠ 0 →
      s.keepsRewrittenEntry t b) ∧
    (s.waiting = none → s.buffers[b].agrees (l.operation.start % 64) data = false →
      t.buffers[b].attempts = s.buffers[b].attempts + 1 ∧ Queue.hasEntry t.queue b = true ∧
      (s.buffers[b].attempts = 2 → t.buffers[b].state = .failed ∧ t.flagSet .commitFail = true ∧
        t.buffers[b].dirty = s.buffers[b].dirty ||| s.buffers[b].inFlight))

/-- A burst completes and exists no longer: a spoiled one places nothing, so that with no access waiting the queue and
the next fields are as before but for the refill planned next; otherwise its bytes, for each address a resident buffer's
valid byte before the device's, stand behind the queued ones, with the refill planned behind them; a demand read on an
empty queue is completed with the first. The address counter stands behind the bytes read either way, unless a capacity
change keeps it UNKNOWN. The clock's value is the model's (log entries 1, 11). What follows a burst is in the order of
log entry 16. -/
def Obligations.BurstFillsTheStreamQueue : Prop :=
  (∀ (data : Vector Byte 16) (l : LinkOperation) (u : Burst) (s : State),
     s.inService → s.runs l .streamRead → s.stream.burst = some u → ∃ t,
     exec (.streamReadComplete data) s = .next t ∧ t.link = none ∧ t.now = max s.now l.endTime ∧
     (s.waiting = none → t.stream.context = s.stream.context ∧ t.stream.lastByte = s.stream.lastByte) ∧
     (u.spoiled = true → s.waiting = none →
       (∀ c, s.stream.context = some c → s.stream.stall = none → s.part = .running →
         s.refilled c s.stream.queue t) ∧
       (s.stream.context = none ∨ s.stream.stall ≠ none ∨ s.part ≠ .running →
         t.stream = { s.stream with burst := none })) ∧
     (u.spoiled = false → s.waiting = none →
       s.stream.queue ++ s.placedBytes u data <+: t.stream.queue ∧
       (∀ c, s.stream.context = some c → s.stream.stall = none → s.part = .running →
         s.refilled c (s.stream.queue ++ s.placedBytes u data) t) ∧
       (s.stream.context = none ∨ s.stream.stall ≠ none ∨ s.part ≠ .running →
         t.stream = { s.stream with burst := none, queue := s.stream.queue ++ s.placedBytes u data })) ∧
     (u.spoiled = false → s.waiting = some .streamByte → s.stream.context ≠ none → s.stream.queue = [] →
       ∀ v rest a, s.placedBytes u data = v :: rest → s.port.access = some a → a.direction = .read →
         t.port.access = some { a with status := .done .completed } ∧ t.port.readByte = v ∧ t.stream.lastByte = v) ∧
     (s.devices[l.operation.device].state ≠ .absent → t.devices[l.operation.device].counter =
       if l.counterLost then none
       else some ((l.operation.start + l.operation.length) % (s.devices[l.operation.device].capacity.pages * 64)))) ∧
  ∀ (data : Vector Byte 16) (u : Burst) (s : State), u.length ≤ 16 → (s.placedBytes u data).length = u.length ∧
    ∀ i : Fin 16, i.val < u.length → (s.placedBytes u data)[i.val]? =
      some (match s.findBuffer u.device ((u.start + i.val) / 64) with
        | none => data[i]
        | some b =>
          if s.buffers[b].valid.getLsbD ((u.start + i.val) % 64) then
            (s.buffers[b].data[(u.start + i.val) % 64]?).getD 0
          else data[i])

/-! ### Probes and start-up -/

/-- A due time makes one probe select join the request set; a refusal before the probe deadline sets the next due
time 250 µs after the select's end; an acknowledge makes the device READY and ends the probe. The clock's value is
the model's (log entries 1, 11). -/
def Obligations.ProbeGoesOnOrEndsReady : Prop :=
  ((∀ (d : Fin 4) (p : Probe) (s : State), s.resetHeld = false → s.settled → s.devices[d].probe = some p →
     exec (.probeSelectDue d) s = .next
       (if s.requested .probeSelect d || s.onLink .probeSelect d then s
       else { s with
         now := max s.now p.selectDue
         requests := s.requests ++ [{ kind := .probeSelect, device := d, start := 0, length := 0 }] })) ∧
   ∀ (l : LinkOperation) (p : Probe) (s : State), s.resetHeld = false → s.settled → s.runs l .probeSelect →
     s.devices[l.operation.device].probe = some p → max s.now l.endTime < p.deadline →
     exec .probeSelectRefuse s = .next
       { s with
         now := max s.now l.endTime
         link := none
         devices := s.devices.set l.operation.device
           { s.devices[l.operation.device] with
             probe := some { p with selectDue := max s.now l.endTime + 4000 } } }) ∧
  ∀ (l : LinkOperation) (s : State), s.inService → s.runs l .probeSelect → ∃ t,
    exec .probeSelectAcknowledge s = .next t ∧ t.link = none ∧ t.now = max s.now l.endTime ∧
    t.devices[l.operation.device] =
      { s.devices[l.operation.device] with state := .ready, pollDue := none, timeout := none, probe := none }

/-- A probe that ends without an acknowledge, at its deadline or at a select refused after it, makes the device ABSENT
with nothing kept; DEVICE_FAULT is raised where it was READY or STUCK; no CLEAN buffer of the device is left. A read
held on a fetch or a stream read of the device that is in the request set is refused DEVICE. In RUNNING its DIRTY
buffers with an own cause in the front generation are FAILED, and an access waiting on such a buffer's entry is refused
BUFFER_FAILED. A deadline is judged by the model's clock (log entries 1, 11). -/
def Obligations.ProbeThatFailsMakesDeviceAbsent : Prop :=
  ∀ (c : Instr) (d : Fin 4) (p : Probe) (s : State), s.inService → s.devices[d].probe = some p →
    (c = .probeDeadline d ∧ s.onLink .probeSelect d = false ∨
      c = .probeSelectRefuse ∧ ∃ l, s.runs l .probeSelect ∧ l.operation.device = d ∧ p.deadline ≤ max s.now l.endTime) →
    ∃ t, exec c s = .next t ∧
    t.devices[d] =
      { s.devices[d] with state := .absent, counter := none, pollDue := none, timeout := none, probe := none } ∧
    (s.devices[d].state ≠ .absent → t.flagSet .deviceFault = true) ∧
    (∀ b : Fin 16, t.buffers[b].state = .clean → t.deviceOfBuffer b ≠ some d) ∧
    (∀ b : Fin 16, s.part = .running → s.coherent → s.deviceOfBuffer b = some d → s.buffers[b].state = .dirty →
      Queue.pushed s.queue b = true ∨ Queue.aged s.queue b = true → Queue.markerBefore s.queue b = false →
      t.buffers[b].state = .failed ∧ t.buffers[b].attempts = s.buffers[b].attempts ∧ t.flagSet .commitFail = true ∧
      ∀ a, s.port.access = some a → a.status = .pending (.crossGeneration b) ∨ a.status = .pending (.entry b) →
        t.port.access = some { a with status := .done (.refused .bufferFailed) }) ∧
    ∀ a o, s.port.access = some a → o ∈ s.requests → o.device = d →
      ((∃ b, a.status = .pending (.fetch b) ∧ o.kind = .pageFetch b) ∨
        (a.status = .pending .streamByte ∧ o.kind = .streamRead ∧ s.stream.burst ≠ none)) →
      t.port.access = some { a with status := .done (.refused .device) } ∧
      t.port.fault = s.port.fault.capture a .device ∧ t.flagSet .accessFault = true

/-- The last start-up probe ends: with device 0 READY the Sequencer enters READ and requests the descriptor, whether
that probe ended by an acknowledge, by a select refused after its deadline, or by its deadline with no select on the
link; the two latter leave its device ABSENT, without DEVICE_FAULT where it was. With device 0 not READY no descriptor
is read: the outcome is DEFAULTS, the default configuration is installed, and start-up ends. A deadline is judged by the
model's clock (log entries 1, 11). -/
def Obligations.LastProbeRequestsTheDescriptor : Prop :=
  (∀ (l : LinkOperation) (s : State), s.resetHeld = false → s.part = .starting → s.startup.phase = .probe →
     s.queue = [] → s.requests = [] → (s.waiting = none ∨ s.waiting = some .handOff) → s.runs l .probeSelect →
     (∀ d : Fin 4, d ≠ l.operation.device → s.devices[d].probe = none) →
     (l.operation.device = 0 ∨ s.devices[(0 : Fin 4)].state = .ready) → ∃ t,
     exec .probeSelectAcknowledge s = .next t ∧ t.startup.phase = .read ∧ t.part = .starting ∧
     t.requests = [{ kind := .descriptorRead, device := 0, start := 0x1FFC0, length := 64 }]) ∧
  ∀ (c : Instr) (d : Fin 4) (p : Probe) (s : State), s.resetHeld = false → s.part = .starting →
    s.startup.phase = .probe → s.startup.store = none → s.queue = [] →
    (s.waiting = none ∨ s.waiting = some .handOff) → s.devices[d].probe = some p →
    (∀ e : Fin 4, e ≠ d → s.devices[e].probe = none) →
    (c = .probeDeadline d ∧ s.onLink .probeSelect d = false ∧ s.onLink .descriptorRead 0 = false ∧
        (s.requests = [] ∨ s.requests = [{ kind := .probeSelect, device := d, start := 0, length := 0 }]) ∨
      s.requests = [] ∧ (∃ l, s.runs l .probeSelect ∧ l.operation.device = d ∧
        (c = .probeSelectRefuse ∧ p.deadline ≤ max s.now l.endTime ∨ c = .probeSelectAcknowledge ∧ d ≠ 0))) →
    ∃ t, exec c s = .next t ∧
    (c ≠ .probeSelectAcknowledge → t.devices[d].state = .absent ∧ (s.devices[d].state = .absent → s.waiting = none →
      t.flagSet .deviceFault = s.flagSet .deviceFault)) ∧
    (s.devices[(0 : Fin 4)].state = .ready → (d ≠ 0 ∨ c = .probeSelectAcknowledge) →
      t.startup.phase = .read ∧ t.part = .starting ∧
      t.requests = [{ kind := .descriptorRead, device := 0, start := 0x1FFC0, length := 64 }]) ∧
    (s.devices[(0 : Fin 4)].state ≠ .ready ∨ (d = 0 ∧ c ≠ .probeSelectAcknowledge) →
      t.startup = ⟨.done, none, some .defaults⟩ ∧ t.regions = Configuration.defaults.regions ∧
      t.settings = Settings.defaults ∧ (∀ e : Fin 4, t.devices[e].capacity = .pages2048) ∧
      t.part = (if s.supply.state = .low ∨ s.supply.state = .recoverPending then .holdup else .running))

/-- The descriptor read ends. Completed, what the checks decide is installed whole, the stream's last byte and the
budget count follow, and the part is RUNNING, or HOLDUP while the supply is LOW or RECOVER_PENDING. Failed in its third
attempt, the outcome is DEFAULTS with the default configuration. An access held in STARTING is then decoded by the table
installed, its wait measured from its active edge, or refused: UNMAPPED, or HOLDUP where the part is in HOLDUP. The
checks: a header other than 0x4B, 0x4C, 1 gives DEFAULTS; a failure of checksum, count, settings, region values, ranges
or overlap gives DEFAULTS_FLAGGED, both with the default configuration; otherwise the outcome is GOOD, with the records
below the count as regions, the others cleared, and the descriptor's settings and capacities. The stream is IDLE in
STARTING (R145). The index of the unacknowledged byte is the model's (log entry 12). -/
def Obligations.DescriptorReadEndsStartup : Prop :=
  (∀ (data : PageBytes) (l : LinkOperation) (outcome : StartupOutcome) (c : Configuration) (s : State),
     s.resetHeld = false → s.part = .starting → s.startup.phase = .read → s.queue = [] → s.requests = [] →
     s.stream.context = none → (s.waiting = none ∨ s.waiting = some .handOff) → s.runs l .descriptorRead →
     startupDecision (some data) = (outcome, c) → ∃ t,
     exec (.descriptorReadComplete data) s = .next t ∧
     t.startup = ⟨.done, none, some outcome⟩ ∧ t.regions = c.regions ∧ t.settings = c.settings ∧
     (∀ d : Fin 4, t.devices[d].capacity = c.capacities[d]) ∧ t.supply.count = c.settings.budget ∧
     t.stream.lastByte = c.settings.fillByte ∧
     (outcome = .defaultsFlagged → t.flagSet .descriptor = true) ∧
     t.part = (if s.supply.state = .low ∨ s.supply.state = .recoverPending then .holdup else .running) ∧
     ∀ a, s.port.access = some a → a.status = .pending .handOff →
       (t.part = .holdup → t.port.access = some { a with status := .done (.refused .holdup) }) ∧
       (t.part = .running → ({ s with regions := c.regions } : State).decode a.address = none →
         t.port.access = some { a with
           writeByte := if a.direction = .write then some s.port.writeLatch else none
           status := .done (.refused .unmapped) }) ∧
       (t.part = .running → ∀ d, ({ s with regions := c.regions } : State).decode a.address = some d →
         ∃ status, status ≠ .pending .handOff ∧ t.port.access = some { a with
           writeByte := if a.direction = .write then some s.port.writeLatch else none
           decode := some d, waitDeadline := a.edgeTime + d.wait, status := status })) ∧
  (∀ (i : Nat) (l : LinkOperation) (s : State),
     s.resetHeld = false → s.part = .starting → s.startup.phase = .read → s.startup.store = none → s.queue = [] →
     s.requests = [] → (s.waiting = none ∨ s.waiting = some .handOff) → s.runs l .descriptorRead →
     i < sentCount l.form l.operation.length → l.attempts = 3 → ∃ t,
     exec (.transferError i) s = .next t ∧ t.startup = ⟨.done, none, some .defaults⟩ ∧
     t.regions = Configuration.defaults.regions ∧ t.settings = Settings.defaults ∧
     (∀ d : Fin 4, t.devices[d].capacity = .pages2048) ∧
     t.part = (if s.supply.state = .low ∨ s.supply.state = .recoverPending then .holdup else .running)) ∧
  (∀ data : PageBytes,
     startupDecision none = (.defaults, Configuration.defaults) ∧
     (data[0] ≠ 0x4B ∨ data[1] ≠ 0x4C ∨ data[2] ≠ 1 →
       startupDecision (some data) = (.defaults, Configuration.defaults)) ∧
     (data[0] = 0x4B → data[1] = 0x4C → data[2] = 1 → ¬ descriptorPasses data →
       startupDecision (some data) = (.defaultsFlagged, Configuration.defaults)) ∧
     (data[0] = 0x4B → data[1] = 0x4C → data[2] = 1 → descriptorPasses data →
       (startupDecision (some data)).1 = .good ∧
       Settings.ofBytes (eightBytes data 52) =
         some ((startupDecision (some data)).2.settings, (startupDecision (some data)).2.capacities) ∧
       ∀ k : Fin 8,
         (k.val < data[3].toNat →
           Region.ofBytes (eightBytes data (4 + 8 * k.val)) = some (startupDecision (some data)).2.regions[k]) ∧
         (data[3].toNat ≤ k.val → (startupDecision (some data)).2.regions[k] = Region.cleared))) ∧
  Configuration.defaults =
    { regions := (Vector.replicate 8 Region.cleared).set 0
        { enabled := true, hostBase := 0, pageCount := 2048, device := 0, deviceBase := 0, policy := .writeThrough
          wait := 0, ageCode := 0, verify := false }
      settings := { fillByte := 0xFF, lowWater := 2, holdLimit := 100, budget := 4, programTimeout := 10
                    eventEnable := 0xFFFF }
      capacities := Vector.replicate 4 .pages2048 }

/-! ### Commits and flush -/

/-- The eligible entry nearest the head of its device starts its commit in RUNNING: FILL with a fetch pending where its
span is not wholly valid, else SEND: the span with its bytes copied to the transmit store, its commit region's verify
read, its dirty bytes in flight and a program requested. In HOLDUP the SEND start consumes a budget count, the only one
consumed where no other buffer has an entry; where the count is then 0 with a DIRTY entry left, HOLDUP_SHORT is raised.
As a command it acts on the named buffer (log entry 6). -/
def Obligations.EligibleEntryStartsItsCommit : Prop :=
  (∀ (b : Fin 16) (g : Tag) (s : State), s.inService → s.part = .running → s.waiting = none →
     s.nearestEligible b = some b → s.buffers[b].tag = some g → ∃ t,
     exec (.commitStart b) s = .next t ∧ t.buffers[b].state = .committing ∧
     t.buffers[b].attempts = s.buffers[b].attempts ∧ t.buffers[b].data = s.buffers[b].data ∧
     (spanKnown s.buffers[b].dirty s.buffers[b].valid = false →
       t.buffers[b].stage = some .fill ∧ t.buffers[b].fill = true ∧ t.buffers[b].dirty = s.buffers[b].dirty) ∧
     (spanKnown s.buffers[b].dirty s.buffers[b].valid = true → s.sendsSpan b g t)) ∧
  ∀ (b : Fin 16) (g : Tag) (s : State), s.inService → s.part = .holdup → s.waiting = none →
    s.nearestEligible b = some b → s.buffers[b].tag = some g →
    spanKnown s.buffers[b].dirty s.buffers[b].valid = true → ∃ t,
    exec (.commitStart b) s = .next t ∧ t.buffers[b].state = .committing ∧ s.sendsSpan b g t ∧
    t.supply.count < s.supply.count ∧
    ((∀ b' : Fin 16, b' ≠ b → Queue.hasEntry s.queue b' = false) → t.supply.count + 1 = s.supply.count) ∧
    (∀ b' : Fin 16, t.supply.count = 0 → t.buffers[b'].state = .dirty → Queue.hasEntry t.queue b' = true →
      t.flagSet .holdupShort = true)

/-- An entry that meets the conditions but for its ABSENT device makes its buffer FAILED, attempts unchanged and its
entry in place, with COMMIT_FAIL. As a command it acts on the named buffer (log entry 6). -/
def Obligations.AbsentHandoverFailsTheBuffer : Prop :=
  ∀ (b : Fin 16) (s : State), s.inService → s.meetsButForDevice b = true → ∃ t,
    exec (.absentHandover b) s = .next t ∧ t.buffers[b].state = .failed ∧
    t.buffers[b].attempts = s.buffers[b].attempts ∧ Queue.hasEntry t.queue b = true ∧ t.flagSet .commitFail = true ∧
    t.devices = s.devices

/-- The age deadline of a buffer with its entry passes, no access waiting: the entry is AGED and the deadline absent.
The clock's value is the model's (log entry 1). -/
def Obligations.AgeDeadlineGivesAged : Prop :=
  ∀ (b : Fin 16) (deadline : Time) (s : State), s.inService → s.waiting = none →
    s.buffers[b].ageDeadline = some deadline → Queue.hasEntry s.queue b = true → ∃ t,
    exec (.ageDeadline b) s = .next t ∧ t.now = max s.now deadline ∧ t.buffers[b].ageDeadline = none ∧
    Queue.aged t.queue b = true

/-- A flush request, by a falling edge of FLUSHREQ#: an empty queue answers FLUSH_DONE at once; otherwise a marker
stands at the tail and carries the only flush mark, FLUSH_DONE as before, while an entry is DIRTY or COMMITTING, and
FLUSH_DONE is raised where none is. But for that marker and the marks the queue is as before. A line that is low makes
no request, and a rise lets the next fall make one. -/
def Obligations.FlushreqEdges : Prop :=
  (∀ s : State, s.inService → s.waiting = none → s.flushreqLow = false → ∃ t,
    exec .flushreqFall s = .next t ∧ t.flushreqLow = true ∧
    s.flushRequested t) ∧
  (∀ s : State, s.settled → s.resetHeld = false → s.flushreqLow = true → exec .flushreqFall s = .next s) ∧
  ∀ s : State, exec .flushreqRise s = .next { s with flushreqLow := false }

/-! ### Supply -/

/-- The four crossings of the supply levels: the supply state and its filter timer; nothing else changes. -/
def Obligations.SupplyCrossings : Prop :=
  ∀ s : State, s.resetHeld = false → s.settled →
    exec .supplyBelowWarning s = .next (if s.supply.state = .normal then
      { s with supply := ⟨.sagPending, some (s.now + 16000), none, s.supply.count⟩ } else s) ∧
    exec .supplyAboveWarning s = .next (if s.supply.state = .sagPending then
      { s with supply := ⟨.normal, none, none, s.supply.count⟩ } else s) ∧
    exec .supplyAboveRecovery s = .next (if s.supply.state = .low then
      { s with supply := ⟨.recoverPending, none, some (s.now + 16000), s.supply.count⟩ } else s) ∧
    exec .supplyBelowRecovery s = .next (if s.supply.state = .recoverPending then
      { s with supply := ⟨.low, none, none, s.supply.count⟩ } else s)

/-- The sag timer expires: a RUNNING part enters HOLDUP with the flag raised, a PENDING access refused HOLDUP, the
stream IDLE with its last byte kept, and a count no higher than the setting; with a setting of 0 every commit in FILL
stops, its buffer DIRTY and its attempts kept, and a DIRTY entry at count 0 raises HOLDUP_SHORT; a STARTING part only
notes the LOW supply. The recovery timer expires: the supply is NORMAL, and a part in HOLDUP returns to RUNNING with the
count at the setting. The clock's value is the model's (log entry 1). -/
def Obligations.FilterExpiriesMoveThePart : Prop :=
  (∀ (expiry : Time) (s : State), s.resetHeld = false → s.supply.state = .sagPending →
     s.supply.sagTimer = some expiry →
     (s.inService → s.part = .running → ∃ t,
       exec .sagTimerExpiry s = .next t ∧ t.now = max s.now expiry ∧ t.part = .holdup ∧ t.supply.state = .low ∧
       t.supply.count ≤ s.settings.budget ∧ t.flagSet .holdup = true ∧ t.stream.context = none ∧ t.stream.queue = [] ∧
       t.stream.stall = none ∧ t.stream.lastByte = s.stream.lastByte ∧
       (∀ a w, s.port.access = some a → a.status = .pending w →
         t.port.access = some { a with status := .done (.refused .holdup) } ∧ t.flagSet .accessFault = true) ∧
       (s.settings.budget = 0 → ∀ b : Fin 16, s.inStage b .fill = true →
         t.buffers[b].state = .dirty ∧ t.buffers[b].stage = none ∧ t.buffers[b].attempts = s.buffers[b].attempts) ∧
       (∀ b : Fin 16, t.supply.count = 0 → t.buffers[b].state = .dirty → Queue.hasEntry t.queue b = true →
         t.flagSet .holdupShort = true)) ∧
     (s.settled → s.part = .starting → exec .sagTimerExpiry s = .next
       { s with now := max s.now expiry, supply := ⟨.low, none, none, s.supply.count⟩ })) ∧
  ∀ (expiry : Time) (s : State), s.resetHeld = false → s.supply.state = .recoverPending →
    s.supply.recoveryTimer = some expiry →
    (s.inService → s.part = .holdup → ∃ t,
      exec .recoveryTimerExpiry s = .next t ∧ t.now = max s.now expiry ∧ t.part = .running ∧
      t.supply = ⟨.normal, none, none, s.settings.budget⟩) ∧
    (s.settled → s.part ≠ .holdup → exec .recoveryTimerExpiry s = .next
      { s with now := max s.now expiry, supply := ⟨.normal, none, none, s.supply.count⟩ })

/-! ### Management link -/

/-- A start with its address byte, no transaction being open: the part answers its own address except in STARTING. A
repeated start ends the open transaction as its end would, its apply included, and opens the next in the state that
leaves (that both spellings act alike is log entry 7). The pointer byte sets the pointer; a data byte goes into the
shadow, loaded from the live entry at the first, and moves the pointer within the entry. A byte of a read is the live
byte at the pointer, which advances by one with 255 followed by 0; a byte left unacknowledged ends the sending. No live
state changes. The fields ackDriven and sent are the model's (log entry 8). -/
def Obligations.TransactionBytes : Prop :=
  (∀ (v : Byte) (s : State), s.resetHeld = false → s.settled → s.management.transaction = .idle →
     exec (.managementAddressByte v) s = .next
       { s with management := { s.management with
           shadow := none, sent := none
           ackDriven := decide (v.toNat / 2 = (if s.straps.msa then 0x5D else 0x5C) ∧ s.part ≠ .starting)
           transaction :=
             if v.toNat / 2 = (if s.straps.msa then 0x5D else 0x5C) ∧ s.part ≠ .starting then
               (if v.getLsbD 0 then .addressedRead false else .addressedWrite false)
             else .ignoring } }) ∧
  (∀ (v : Byte) (s : State), s.resetHeld = false → ∃ u, exec .managementTransactionEnd s = .next u ∧
     exec (.managementAddressByte v) s = .next
       { u with management := { u.management with
           shadow := none, sent := none
           ackDriven := decide (v.toNat / 2 = (if u.straps.msa then 0x5D else 0x5C) ∧ u.part ≠ .starting)
           transaction :=
             if v.toNat / 2 = (if u.straps.msa then 0x5D else 0x5C) ∧ u.part ≠ .starting then
               (if v.getLsbD 0 then .addressedRead false else .addressedWrite false)
             else .ignoring } }) ∧
  (∀ (v : Byte) (s : State), s.resetHeld = false → s.settled →
     (s.management.transaction = .addressedWrite false → exec (.pointerByte v) s = .next
       { s with management := { s.management with
           transaction := .addressedWrite true, pointer := v, ackDriven := true } }) ∧
     (s.management.transaction = .addressedWrite true → exec (.dataByte v) s = .next
       { s with management := { s.management with
           shadow := some ((s.management.shadow.getD
             { entry := entryOf s.management.pointer, bytes := s.entryBytes (entryOf s.management.pointer),
               written := 0 }).write (offsetOf s.management.pointer) v)
           pointer := BitVec.ofNat 8 (s.management.pointer.toNat / 8 * 8 + (s.management.pointer.toNat + 1) % 8)
           ackDriven := true } })) ∧
  ∀ (ack : Bool) (s : State), s.resetHeld = false → s.settled →
    (s.management.transaction = .addressedRead false → exec (.managementReadByte ack) s = .next
      { s with management := { s.management with
          transaction := .addressedRead (!ack), pointer := s.management.pointer + 1
          sent := some (s.spaceByte s.management.pointer) } }) ∧
    (s.management.transaction = .addressedRead true → exec (.managementReadByte ack) s = .next s)

/-- The end of a transaction: without a data byte nothing is applied and only the transaction closes; with one, it is
the apply of the shadow's row. That both spellings act alike is log entry 7. -/
def Obligations.TransactionEndAppliesOrCloses : Prop :=
  ∀ s : State,
    (s.resetHeld = false → s.settled → s.pendingShadow = none → exec .managementTransactionEnd s = .next
      { s with management := { s.management with transaction := .idle, shadow := none } }) ∧
    ∀ x, s.pendingShadow = some x → exec .managementTransactionEnd s = exec x.kind.row s

/-- A region apply: the first failing check in the order VALUE, RANGE, OVERLAP, BUSY_REGION names the status and leaves
the entry; otherwise the shadow becomes the entry. Nothing else changes. A shadow identical to the entry passes every
check (the region table being as the guards keep it). -/
def Obligations.RegionApplyIsGuarded : Prop :=
  ∀ (x : Shadow) (n : Fin 8) (s : State), s.resetHeld = false → s.settled → s.applies x (.region n) →
    (∀ status, s.checkRegion n x.bytes = .error status → exec .regionApply s = .next
      { s with management := s.management.closed status s.management.commandStatus }) ∧
    (∀ r, s.checkRegion n x.bytes = .ok r → exec .regionApply s = .next
      { s with
        regions := s.regions.set n r
        management := s.management.closed .accepted s.management.commandStatus }) ∧
    (regionValueFails x.bytes → s.checkRegion n x.bytes = .error .value) ∧
    (∀ r, Region.ofBytes x.bytes = some r →
      (r.enabled = true → (r.hostBase + r.pageCount > 16384 ∨
          r.deviceBase + r.pageCount > s.devices[r.device].capacity.pages) →
        s.checkRegion n x.bytes = .error .range) ∧
      (r.enabled = true → r.hostBase + r.pageCount ≤ 16384 →
        r.deviceBase + r.pageCount ≤ s.devices[r.device].capacity.pages →
        (∃ m : Fin 8, m ≠ n ∧ s.regions[m].enabled = true ∧ r.overlaps s.regions[m] = true) →
        s.checkRegion n x.bytes = .error .overlap) ∧
      ((r.enabled = false ∨ (r.hostBase + r.pageCount ≤ 16384 ∧
          r.deviceBase + r.pageCount ≤ s.devices[r.device].capacity.pages ∧
          ∀ m : Fin 8, m ≠ n → s.regions[m].enabled = true → r.overlaps s.regions[m] = false)) →
        s.checkRegion n x.bytes =
          if s.regions[n].guardedChanged r = true ∧ ∃ b : Fin 16, s.buffers[b].commitRegion = some n
          then .error .busyRegion else .ok r)) ∧
    (s.configured → x.bytes = s.regions[n].toBytes → s.checkRegion n x.bytes = .ok s.regions[n])

/-- A watch apply: a host address above 0xFFFFF or a polarity that is none fails VALUE and leaves the entry; otherwise
the shadow is taken, and last-match takes the armed value of the new polarity unless the watch stays enabled with its
pattern unchanged. Nothing else changes, whatever the commit queue and the buffers hold. -/
def Obligations.WatchApplyArms : Prop :=
  ∀ (x : Shadow) (n : Fin 8) (s : State), s.resetHeld = false → s.settled → s.applies x (.watch n) →
    (Watch.ofBytes x.bytes = none ↔ watchValueFails x.bytes) ∧
    (watchValueFails x.bytes → exec .watchApply s = .next
      { s with management := s.management.closed .value s.management.commandStatus }) ∧
    ∀ w, Watch.ofBytes x.bytes = some w → exec .watchApply s = .next
      { s with
        watches := s.watches.set n { w with
          lastMatch :=
            if s.watches[n].enabled = true ∧ w.enabled = true ∧ s.watches[n].address = w.address ∧
                s.watches[n].mask = w.mask ∧ s.watches[n].compare = w.compare ∧ s.watches[n].polarity = w.polarity
            then s.watches[n].lastMatch else decide (w.polarity = .leave) }
        management := s.management.closed .accepted s.management.commandStatus }

/-- A settings apply: a failed check leaves every setting; otherwise all are in force at once, a changed capacity makes
the device's counter UNKNOWN, and outside HOLDUP the budget count takes the setting; with no access waiting, the CLEAN
unpinned buffers whose pages a changed capacity no longer holds are FREE, and every other CLEAN buffer is as before. The
checks: VALUE; RANGE, an enabled region beyond a changed capacity; BUSY_REGION, a changed device with a buffer DIRTY,
COMMITTING, FAILED or pinned, or with the PENDING access decoded on it. The order of its checks over the devices is log
entry 24. That a freed buffer's bytes are zero is log entry 9. -/
def Obligations.SettingsApplyIsWhole : Prop :=
  ∀ (x : Shadow) (s : State), s.inService → s.settled → s.applies x .settings →
    (∀ status, s.checkSettings x.bytes = .error status → exec .settingsApply s = .next
      { s with management := s.management.closed status s.management.commandStatus }) ∧
    (∀ new capacities, s.checkSettings x.bytes = .ok (new, capacities) → ∃ t,
      exec .settingsApply s = .next t ∧ t.settings = new ∧ t.regions = s.regions ∧
      t.management = s.management.closed .accepted s.management.commandStatus ∧
      (∀ d : Fin 4, t.devices[d] = if s.devices[d].capacity = capacities[d] then s.devices[d]
        else { s.devices[d] with capacity := capacities[d], counter := none }) ∧
      (s.part ≠ .holdup → t.supply.count = new.budget) ∧
      (s.part = .holdup → t.supply.count ≤ min s.supply.count new.budget) ∧
      (s.waiting = none → s.recency.Nodup → ∀ b : Fin 16, s.buffers[b].state = .clean →
        if s.buffers[b].fill = false ∧ s.buffers[b].tag.any (fun g =>
            decide (s.devices[g.device].capacity ≠ capacities[g.device]) &&
              decide (capacities[g.device].pages ≤ g.page)) = true
        then t.buffers[b] = PageBuffer.freed ∧ b ∉ t.recency
        else t.buffers[b] = s.buffers[b])) ∧
    (settingsValueFails x.bytes → s.checkSettings x.bytes = .error .value) ∧
    ∀ new capacities, Settings.ofBytes x.bytes = some (new, capacities) → s.checkSettings x.bytes =
      if ∃ n : Fin 8, s.regions[n].enabled = true ∧
          s.devices[s.regions[n].device].capacity ≠ capacities[s.regions[n].device] ∧
          capacities[s.regions[n].device].pages < s.regions[n].deviceBase + s.regions[n].pageCount
      then .error .range
      else if ∃ d : Fin 4, s.devices[d].capacity ≠ capacities[d] ∧
          ((∃ b : Fin 16, s.buffers[b].tag.map (·.device) = some d ∧ (s.buffers[b].state = .dirty ∨
              s.buffers[b].state = .committing ∨ s.buffers[b].state = .failed ∨ s.buffers[b].fill = true)) ∨
            (s.waiting ≠ none ∧ s.accessDecode.map (·.device) = some d))
      then .error .busyRegion
      else .ok (new, capacities)

/-- The applies that touch no block but their own record: event flags written as 1 are cleared, the fault record is
emptied, a read-only entry is refused READ_ONLY, an argument alone is stored, an unknown code only sets the command
status. -/
def Obligations.RecordApplies : Prop :=
  ∀ (x : Shadow) (s : State), s.resetHeld = false → s.settled →
    (s.applies x .eventFlagClear → exec .eventFlagClear s = .next
      { s with
        flags := s.flags &&& ~~~((if x.written.getLsbD 1 then x.bytes[1] else 0#8) ++
          (if x.written.getLsbD 0 then x.bytes[0] else 0#8))
        management := s.management.closed .accepted s.management.commandStatus }) ∧
    (s.applies x .faultRecordEmpty → exec .faultRecordEmpty s = .next
      { s with
        port := { s.port with fault := FaultRecord.empty }
        management := s.management.closed .accepted s.management.commandStatus }) ∧
    (s.applies x .readOnly → exec .readOnlyApply s = .next
      { s with management := s.management.closed .readOnly s.management.commandStatus }) ∧
    (s.applies x .argumentStore → exec .commandArgumentStore s = .next
      { s with management := (s.management.taken x).closed .accepted s.management.commandStatus }) ∧
    (s.applies x .unknown → exec .unknownCommand s = .next
      { s with management := (s.management.taken x).closed .accepted .unknown })

/-- The BARRIER command puts a marker at the tail where the tail is a buffer entry, and changes nothing else. The FLUSH
command makes a flush request: an empty queue answers FLUSH_DONE at once; otherwise a marker stands at the tail and
carries the only flush mark, FLUSH_DONE as before, while an entry is DIRTY or COMMITTING, and FLUSH_DONE is raised where
none is. But for that marker and the marks the queue is as before. Both have status DONE at once. -/
def Obligations.BarrierAndFlushCommands : Prop :=
  (∀ (x : Shadow) (s : State), s.resetHeld = false → s.settled → s.applies x .barrier →
     exec .barrier s = .next
       { s with
         queue := if s.queue.getLast?.any (fun e => !e.isMarker) then s.queue ++ [.marker false] else s.queue
         management := (s.management.taken x).closed .accepted .done }) ∧
  ∀ (x : Shadow) (s : State), s.inService → s.waiting = none → s.applies x .flush → ∃ t,
    exec .flush s = .next t ∧ t.management = (s.management.taken x).closed .accepted .done ∧
    s.flushRequested t

/-- RETRY of a FAILED buffer: with attempts 0, its bytes and its entry, which is pushed, it is DIRTY, or its commit has
started, or it is FAILED again where its device is ABSENT. DISCARD of a FAILED buffer: it is FREE and its entry gone;
that its bytes are then zero is log entry 9. With any other argument both are REFUSED and change nothing. -/
def Obligations.RetryAndDiscardCommands : Prop :=
  (∀ (x : Shadow) (m : Management) (s : State), s.inService → s.applies x .retry → m = s.management.taken x →
     (∀ (b : Fin 16) (g : Tag), s.coherent → s.waiting = none → m.argument.toNat = b.val → s.buffers[b].state = .failed →
       s.buffers[b].tag = some g → ∃ t,
       exec .retry s = .next t ∧ t.management = m.closed .accepted .done ∧
       (t.buffers[b].state = .dirty ∨ t.buffers[b].state = .committing ∨
         (s.devices[g.device].state = .absent ∧ t.buffers[b].state = .failed ∧ t.flagSet .commitFail = true)) ∧
       t.buffers[b].attempts = 0 ∧ t.buffers[b].data = s.buffers[b].data ∧ Queue.pushed t.queue b = true) ∧
     ((∀ b : Fin 16, m.argument.toNat = b.val → s.buffers[b].state ≠ .failed) → s.settled →
       exec .retry s = .next { s with management := m.closed .accepted .refused })) ∧
  ∀ (x : Shadow) (m : Management) (s : State), s.inService → s.applies x .discard → m = s.management.taken x →
    (∀ b : Fin 16, s.coherent → s.waiting = none → m.argument.toNat = b.val → s.buffers[b].state = .failed → ∃ t,
      exec .discard s = .next t ∧ t.management = m.closed .accepted .done ∧ t.buffers[b] = PageBuffer.freed ∧
      Queue.hasEntry t.queue b = false ∧ b ∉ t.recency) ∧
    ((∀ b : Fin 16, m.argument.toNat = b.val → s.buffers[b].state ≠ .failed) → s.settled →
      exec .discard s = .next { s with management := m.closed .accepted .refused })

/-- DROP_CLEAN, no access waiting: every CLEAN unpinned buffer is FREE, every other buffer keeps its data, its valid map
and its tag; status DONE. That a freed buffer's bytes are zero is log entry 9. -/
def Obligations.DropCleanFreesCleanBuffers : Prop :=
  ∀ (x : Shadow) (s : State), s.inService → s.coherent → s.waiting = none → s.applies x .dropClean → ∃ t,
    exec .dropClean s = .next t ∧ t.management = (s.management.taken x).closed .accepted .done ∧
    ∀ b : Fin 16,
      (s.buffers[b].state = .clean → s.buffers[b].fill = false → t.buffers[b] = PageBuffer.freed) ∧
      ((s.buffers[b].state ≠ .clean ∨ s.buffers[b].fill = true) → t.buffers[b].data = s.buffers[b].data ∧
        t.buffers[b].valid = s.buffers[b].valid ∧ t.buffers[b].tag = s.buffers[b].tag)

/-- REPROBE of a device with no COMMITTING buffer and no probe in progress starts a probe bounded by the program
timeout, its state unchanged, its counter UNKNOWN, a STUCK device's polls set aside; any other argument is REFUSED.
The clock's value is the model's (log entry 1). -/
def Obligations.ReprobeCommandStartsAProbe : Prop :=
  ∀ (x : Shadow) (m : Management) (s : State), s.inService → s.settled → s.applies x .reprobe →
    m = s.management.taken x →
    (∀ d : Fin 4, m.argument.toNat = d.val → s.deviceCommitting d = false → s.devices[d].probe = none →
      exec .reprobe s = .next
        { s with
          requests := s.requests.filter fun o => !(decide (o.kind = .poll) && decide (o.device = d))
          devices := s.devices.set d
            { s.devices[d] with
              probe := some { deadline := s.now + s.settings.programTimeout * 16000, selectDue := s.now }
              counter := none
              pollDue := if s.devices[d].state = .stuck then none else s.devices[d].pollDue }
          management := m.closed .accepted .done }) ∧
    ((∀ d : Fin 4, m.argument.toNat = d.val → s.deviceCommitting d = true ∨ s.devices[d].probe ≠ none) →
      exec .reprobe s = .next { s with management := m.closed .accepted .refused })

/-! ### Formats -/

/-- The bytes of the entries at their space addresses, bit by bit as 12 section 12.4 lays them out, unused bits and
entry 30 reading 0, for every value from its range: region entries, watch entries, device records, settings, event
flags, fault record, pool summary, buffer status, command entry; and EVT# is low exactly when a set flag has its enable
bit set. What is read of a region, a watch and the settings gives them again as a shadow (last-match aside, which no
apply takes). -/
def Obligations.EntriesReadAsTheFormatsSay : Prop :=
  (∀ (n : Fin 8) (s : State), s.regions[n].inRange → s.entryReads n.val
     [s.regions[n].enabled.toNat * 128 + s.regions[n].hostBase / 256, s.regions[n].hostBase % 256,
       s.regions[n].pageCount / 256, s.regions[n].pageCount % 256,
       s.regions[n].device.val * 64 + s.regions[n].deviceBase / 256, s.regions[n].deviceBase % 256,
       (match s.regions[n].policy with
         | .writeBack => 0
         | .writeThrough => 1
         | .readOnly => 2
         | .stream => 3) * 16 + s.regions[n].wait,
       s.regions[n].verify.toNat * 128 + s.regions[n].ageCode]) ∧
  (∀ (n : Fin 8) (s : State), s.entryReads (8 + n.val)
     [s.watches[n].address.toNat / 65536, s.watches[n].address.toNat / 256 % 256, s.watches[n].address.toNat % 256,
       s.watches[n].mask.toNat, s.watches[n].compare.toNat,
       s.watches[n].enabled.toNat * 128 + (if s.watches[n].polarity = .enter then 1 else 0),
       s.watches[n].barrierBefore.toNat + s.watches[n].barrierAfter.toNat * 2 + s.watches[n].commit.toNat * 4,
       s.watches[n].lastMatch.toNat]) ∧
  (∀ s : State, s.entryReads 16 ((List.finRange 4).flatMap fun d =>
     [s.devices[d].probe.isSome.toNat * 128 +
        (match s.devices[d].state with
          | .absent => 0
          | .ready => 1
          | .programming => 2
          | .stuck => 3),
      match s.devices[d].capacity with
        | .pages512 => 0
        | .pages1024 => 1
        | .pages2048 => 2])) ∧
  (∀ s : State, s.settings.inRange → s.entryReads 17
     [s.settings.fillByte.toNat, s.settings.lowWater, s.settings.holdLimit, s.settings.budget, s.settings.programTimeout,
       ((List.finRange 4).map fun d => 4 ^ d.val *
         match s.devices[d].capacity with
         | .pages512 => 0
         | .pages1024 => 1
         | .pages2048 => 2).sum,
       s.settings.eventEnable.toNat % 256, s.settings.eventEnable.toNat / 256]) ∧
  (∀ s : State, s.entryReads 18 [s.flags.toNat % 256, s.flags.toNat / 256, 0, 0, 0, 0, 0, 0] ∧
     [s.flagSet .commitFail, s.flagSet .deviceFault, s.flagSet .accessFault, s.flagSet .flushDone, s.flagSet .holdup,
       s.flagSet .holdupShort, s.flagSet .descriptor, s.flagSet .pressure] = (List.range 8).map s.flags.getLsbD ∧
     (∀ n : Fin 8, s.flagSet (.watch n) = s.flags.getLsbD (8 + n.val)) ∧
     (s.evtLow = true ↔ ∃ i : Fin 16, s.flags.getLsbD i.val = true ∧ s.settings.eventEnable.getLsbD i.val = true)) ∧
  (∀ s : State, s.entryReads 19
     [s.port.fault.full.toNat + s.port.fault.overflow.toNat * 2 + (if s.port.fault.direction = .write then 4 else 0),
       (match s.port.fault.cause with
         | none => 0
         | some .unmapped => 1
         | some .readOnly => 2
         | some .holdLimit => 3
         | some .device => 4
         | some .bufferFailed => 5
         | some .noBuffer => 6
         | some .holdup => 7
         | some .fetchFailed => 8),
       s.port.fault.address.toNat / 65536, s.port.fault.address.toNat / 256 % 256, s.port.fault.address.toNat % 256,
       0, 0, 0]) ∧
  (∀ s : State, s.queue.length ≤ 32 → s.entryReads 20
     ([BufferState.free, .clean, .dirty, .committing, .failed].map (fun x =>
         (List.finRange 16).countP fun b => decide (s.buffers[b].state = x)) ++
       [s.queue.length, s.queue.countP (·.isMarker),
         match s.part with
         | .starting => 0
         | .running => 1
         | .holdup => 2])) ∧
  (∀ (k : Fin 8) (s : State), (∀ b : Fin 16, s.buffers[b].fitsState = true ∧ s.buffers[b].tag.all (·.page < 2048) = true) →
     s.queue.length ≤ 32 → s.entryReads (21 + k.val)
       (s.statusNumbers ⟨2 * k.val, by omega⟩ ++ s.statusNumbers ⟨2 * k.val + 1, by omega⟩)) ∧
  (∀ s : State, s.entryReads 30 [0, 0, 0, 0, 0, 0, 0, 0] ∧ s.entryReads 31
     [s.management.code.toNat, s.management.argument.toNat,
       (match s.management.commandStatus with
         | .none => 0
         | .done => 1
         | .refused => 2
         | .unknown => 3),
       (match s.management.applyStatus with
         | .none => 0
         | .accepted => 1
         | .value => 2
         | .range => 3
         | .overlap => 4
         | .busyRegion => 5
         | .readOnly => 6), 0, 0, 0, 0]) ∧
  (∀ r : Region, r.inRange → Region.ofBytes r.toBytes = some r) ∧
  (∀ w : Watch, Watch.ofBytes w.toBytes = some { w with lastMatch := false }) ∧
  ∀ (x : Settings) (c : Vector Capacity 4), x.inRange → Settings.ofBytes (x.toBytes c) = some (x, c)

/-- The values of R191, and no others, fail the VALUE check. A shadow that holds one is refused whole with status VALUE
at its apply, and a descriptor that holds one in a used record or in its settings carries no configuration. What is read
of an entry holds none of them. -/
def Obligations.ValuesOutsideTheirRangeFail : Prop :=
  (∀ v : Vector Byte 8,
     (Region.ofBytes v = none ↔ regionValueFails v) ∧ (Watch.ofBytes v = none ↔ watchValueFails v) ∧
     (Settings.ofBytes v = none ↔ settingsValueFails v)) ∧
  (∀ (x : Shadow) (s : State), s.resetHeld = false → s.settled → s.pendingShadow = some x →
     (x.entry.val < 8 ∧ regionValueFails x.bytes ∨ 8 ≤ x.entry.val ∧ x.entry.val < 16 ∧ watchValueFails x.bytes ∨
       x.entry.val = 17 ∧ settingsValueFails x.bytes) →
     exec .managementTransactionEnd s = .next
       { s with management := s.management.closed .value s.management.commandStatus }) ∧
  (∀ data : PageBytes, (settingsValueFails (eightBytes data 52) ∨
       ∃ k : Fin 6, k.val < data[3].toNat ∧ regionValueFails (eightBytes data (4 + 8 * k.val))) →
     descriptorConfiguration data = none) ∧
  ∀ s : State, s.configured →
    (∀ n : Fin 8, ¬ regionValueFails s.regions[n].toBytes ∧ ¬ watchValueFails s.watches[n].toBytes) ∧
    ¬ settingsValueFails (s.settings.toBytes s.capacities)

/-- Entry 29 reads as its fixed values in every state, and a write transaction into it is applied with status READ_ONLY
and changes nothing else. -/
def Obligations.IdentificationIsFixed : Prop :=
  (∀ s : State, (List.range 8).map (fun i => s.spaceByte (BitVec.ofNat 8 (0xE8 + i))) =
     [0xE7, 0x04, 0x16, 0x01, 16, 8, 8, 4]) ∧
  ∀ (x : Shadow) (c : Instr) (s : State), s.resetHeld = false → s.settled → s.pendingShadow = some x →
    x.entry = 29 → (c = .managementTransactionEnd ∨ c = .readOnlyApply) →
    exec c s = .next { s with management := s.management.closed .readOnly s.management.commandStatus }

/-! ### Invariants -/

/-- Every step keeps the region table, the settings and the budget count as the guards keep them. -/
def Obligations.StepKeepsConfiguration : Prop :=
  ∀ s t : State, s.configured → step s = .next t → t.configured

/-- Every step keeps buffers, recency list, commit queue and pending fetches in agreement; the queue then has at most 32
entries, of which at most 16 are markers. -/
def Obligations.StepKeepsBuffersAndQueueCoherent : Prop :=
  (∀ s t : State, s.coherent → step s = .next t → t.coherent) ∧
  ∀ s : State, s.coherent → s.queue.length ≤ 32 ∧ Queue.markerCount s.queue ≤ 16

/-- Every step keeps the stream context good, and IDLE in STARTING (R145). -/
def Obligations.StepKeepsStreamGood : Prop :=
  (∀ s t : State, s.stream.good = true → step s = .next t → t.stream.good = true) ∧
  ∀ s t : State, s.streamIdleInStarting → step s = .next t → t.streamIdleInStarting

/-- Every step keeps the device records good. -/
def Obligations.StepKeepsDevicesGood : Prop :=
  ∀ s t : State, s.devicesGood → step s = .next t → t.devicesGood

/-- Every step ends with no consequence left to draw: no entry that could start its commit, nothing that an access, a
flush or start-up waits on left standing (the bound of log entry 4 is never reached). -/
def Obligations.StepEndsSettled : Prop :=
  ∀ s t : State, s.settled → step s = .next t → t.settled

/-- The invariants hold in State.reset, the machine right after reset as the model chooses it (both straps 0, the supply
not below the warning level, FLUSHREQ# high, clock 0: log entry 2). -/
def Obligations.InvariantsHoldAtReset : Prop :=
  State.reset.configured ∧ State.reset.coherent ∧ State.reset.stream.good = true ∧
    State.reset.streamIdleInStarting ∧ State.reset.devicesGood ∧ State.reset.settled
end

