-- ==== Sys2Proof/Laws/State.lean ====
section
/-! SUPPORT. What each update of the state does to each field, so that no later proof unfolds a record update. -/
namespace Sys2Proof.Machine

variable (s : State)

/-! ### setAccess -/

@[simp] theorem State.setAccess_now (a : Option Access) : (s.setAccess a).now = s.now := rfl
@[simp] theorem State.setAccess_pending (a : Option Access) : (s.setAccess a).pending = s.pending := rfl
@[simp] theorem State.setAccess_resetHeld (a : Option Access) : (s.setAccess a).resetHeld = s.resetHeld := rfl
@[simp] theorem State.setAccess_flushreqLow (a : Option Access) : (s.setAccess a).flushreqLow = s.flushreqLow := rfl
@[simp] theorem State.setAccess_straps (a : Option Access) : (s.setAccess a).straps = s.straps := rfl
@[simp] theorem State.setAccess_part (a : Option Access) : (s.setAccess a).part = s.part := rfl
@[simp] theorem State.setAccess_startup (a : Option Access) : (s.setAccess a).startup = s.startup := rfl
@[simp] theorem State.setAccess_port (a : Option Access) : (s.setAccess a).port = { s.port with access := a } := rfl
@[simp] theorem State.setAccess_settings (a : Option Access) : (s.setAccess a).settings = s.settings := rfl
@[simp] theorem State.setAccess_regions (a : Option Access) : (s.setAccess a).regions = s.regions := rfl
@[simp] theorem State.setAccess_buffers (a : Option Access) : (s.setAccess a).buffers = s.buffers := rfl
@[simp] theorem State.setAccess_recency (a : Option Access) : (s.setAccess a).recency = s.recency := rfl
@[simp] theorem State.setAccess_queue (a : Option Access) : (s.setAccess a).queue = s.queue := rfl
@[simp] theorem State.setAccess_devices (a : Option Access) : (s.setAccess a).devices = s.devices := rfl
@[simp] theorem State.setAccess_requests (a : Option Access) : (s.setAccess a).requests = s.requests := rfl
@[simp] theorem State.setAccess_link (a : Option Access) : (s.setAccess a).link = s.link := rfl
@[simp] theorem State.setAccess_transmit (a : Option Access) : (s.setAccess a).transmit = s.transmit := rfl
@[simp] theorem State.setAccess_stream (a : Option Access) : (s.setAccess a).stream = s.stream := rfl
@[simp] theorem State.setAccess_watches (a : Option Access) : (s.setAccess a).watches = s.watches := rfl
@[simp] theorem State.setAccess_supply (a : Option Access) : (s.setAccess a).supply = s.supply := rfl
@[simp] theorem State.setAccess_flags (a : Option Access) : (s.setAccess a).flags = s.flags := rfl
@[simp] theorem State.setAccess_management (a : Option Access) : (s.setAccess a).management = s.management := rfl

/-! ### setBuffer -/

@[simp] theorem State.setBuffer_now (b : Fin 16) (x : PageBuffer) : (s.setBuffer b x).now = s.now := rfl
@[simp] theorem State.setBuffer_pending (b : Fin 16) (x : PageBuffer) : (s.setBuffer b x).pending = s.pending := rfl
@[simp] theorem State.setBuffer_resetHeld (b : Fin 16) (x : PageBuffer) : (s.setBuffer b x).resetHeld = s.resetHeld := rfl
@[simp] theorem State.setBuffer_flushreqLow (b : Fin 16) (x : PageBuffer) : (s.setBuffer b x).flushreqLow = s.flushreqLow := rfl
@[simp] theorem State.setBuffer_straps (b : Fin 16) (x : PageBuffer) : (s.setBuffer b x).straps = s.straps := rfl
@[simp] theorem State.setBuffer_part (b : Fin 16) (x : PageBuffer) : (s.setBuffer b x).part = s.part := rfl
@[simp] theorem State.setBuffer_startup (b : Fin 16) (x : PageBuffer) : (s.setBuffer b x).startup = s.startup := rfl
@[simp] theorem State.setBuffer_port (b : Fin 16) (x : PageBuffer) : (s.setBuffer b x).port = s.port := rfl
@[simp] theorem State.setBuffer_settings (b : Fin 16) (x : PageBuffer) : (s.setBuffer b x).settings = s.settings := rfl
@[simp] theorem State.setBuffer_regions (b : Fin 16) (x : PageBuffer) : (s.setBuffer b x).regions = s.regions := rfl
@[simp] theorem State.setBuffer_buffers (b : Fin 16) (x : PageBuffer) : (s.setBuffer b x).buffers = s.buffers.set b x := rfl
@[simp] theorem State.setBuffer_recency (b : Fin 16) (x : PageBuffer) : (s.setBuffer b x).recency = s.recency := rfl
@[simp] theorem State.setBuffer_queue (b : Fin 16) (x : PageBuffer) : (s.setBuffer b x).queue = s.queue := rfl
@[simp] theorem State.setBuffer_devices (b : Fin 16) (x : PageBuffer) : (s.setBuffer b x).devices = s.devices := rfl
@[simp] theorem State.setBuffer_requests (b : Fin 16) (x : PageBuffer) : (s.setBuffer b x).requests = s.requests := rfl
@[simp] theorem State.setBuffer_link (b : Fin 16) (x : PageBuffer) : (s.setBuffer b x).link = s.link := rfl
@[simp] theorem State.setBuffer_transmit (b : Fin 16) (x : PageBuffer) : (s.setBuffer b x).transmit = s.transmit := rfl
@[simp] theorem State.setBuffer_stream (b : Fin 16) (x : PageBuffer) : (s.setBuffer b x).stream = s.stream := rfl
@[simp] theorem State.setBuffer_watches (b : Fin 16) (x : PageBuffer) : (s.setBuffer b x).watches = s.watches := rfl
@[simp] theorem State.setBuffer_supply (b : Fin 16) (x : PageBuffer) : (s.setBuffer b x).supply = s.supply := rfl
@[simp] theorem State.setBuffer_flags (b : Fin 16) (x : PageBuffer) : (s.setBuffer b x).flags = s.flags := rfl
@[simp] theorem State.setBuffer_management (b : Fin 16) (x : PageBuffer) : (s.setBuffer b x).management = s.management := rfl

/-! ### setDevice -/

@[simp] theorem State.setDevice_now (d : Fin 4) (x : Device) : (s.setDevice d x).now = s.now := rfl
@[simp] theorem State.setDevice_pending (d : Fin 4) (x : Device) : (s.setDevice d x).pending = s.pending := rfl
@[simp] theorem State.setDevice_resetHeld (d : Fin 4) (x : Device) : (s.setDevice d x).resetHeld = s.resetHeld := rfl
@[simp] theorem State.setDevice_flushreqLow (d : Fin 4) (x : Device) : (s.setDevice d x).flushreqLow = s.flushreqLow := rfl
@[simp] theorem State.setDevice_straps (d : Fin 4) (x : Device) : (s.setDevice d x).straps = s.straps := rfl
@[simp] theorem State.setDevice_part (d : Fin 4) (x : Device) : (s.setDevice d x).part = s.part := rfl
@[simp] theorem State.setDevice_startup (d : Fin 4) (x : Device) : (s.setDevice d x).startup = s.startup := rfl
@[simp] theorem State.setDevice_port (d : Fin 4) (x : Device) : (s.setDevice d x).port = s.port := rfl
@[simp] theorem State.setDevice_settings (d : Fin 4) (x : Device) : (s.setDevice d x).settings = s.settings := rfl
@[simp] theorem State.setDevice_regions (d : Fin 4) (x : Device) : (s.setDevice d x).regions = s.regions := rfl
@[simp] theorem State.setDevice_buffers (d : Fin 4) (x : Device) : (s.setDevice d x).buffers = s.buffers := rfl
@[simp] theorem State.setDevice_recency (d : Fin 4) (x : Device) : (s.setDevice d x).recency = s.recency := rfl
@[simp] theorem State.setDevice_queue (d : Fin 4) (x : Device) : (s.setDevice d x).queue = s.queue := rfl
@[simp] theorem State.setDevice_devices (d : Fin 4) (x : Device) : (s.setDevice d x).devices = s.devices.set d x := rfl
@[simp] theorem State.setDevice_requests (d : Fin 4) (x : Device) : (s.setDevice d x).requests = s.requests := rfl
@[simp] theorem State.setDevice_link (d : Fin 4) (x : Device) : (s.setDevice d x).link = s.link := rfl
@[simp] theorem State.setDevice_transmit (d : Fin 4) (x : Device) : (s.setDevice d x).transmit = s.transmit := rfl
@[simp] theorem State.setDevice_stream (d : Fin 4) (x : Device) : (s.setDevice d x).stream = s.stream := rfl
@[simp] theorem State.setDevice_watches (d : Fin 4) (x : Device) : (s.setDevice d x).watches = s.watches := rfl
@[simp] theorem State.setDevice_supply (d : Fin 4) (x : Device) : (s.setDevice d x).supply = s.supply := rfl
@[simp] theorem State.setDevice_flags (d : Fin 4) (x : Device) : (s.setDevice d x).flags = s.flags := rfl
@[simp] theorem State.setDevice_management (d : Fin 4) (x : Device) : (s.setDevice d x).management = s.management := rfl

/-! ### setStream -/

@[simp] theorem State.setStream_now (x : Stream) : (s.setStream x).now = s.now := rfl
@[simp] theorem State.setStream_pending (x : Stream) : (s.setStream x).pending = s.pending := rfl
@[simp] theorem State.setStream_resetHeld (x : Stream) : (s.setStream x).resetHeld = s.resetHeld := rfl
@[simp] theorem State.setStream_flushreqLow (x : Stream) : (s.setStream x).flushreqLow = s.flushreqLow := rfl
@[simp] theorem State.setStream_straps (x : Stream) : (s.setStream x).straps = s.straps := rfl
@[simp] theorem State.setStream_part (x : Stream) : (s.setStream x).part = s.part := rfl
@[simp] theorem State.setStream_startup (x : Stream) : (s.setStream x).startup = s.startup := rfl
@[simp] theorem State.setStream_port (x : Stream) : (s.setStream x).port = s.port := rfl
@[simp] theorem State.setStream_settings (x : Stream) : (s.setStream x).settings = s.settings := rfl
@[simp] theorem State.setStream_regions (x : Stream) : (s.setStream x).regions = s.regions := rfl
@[simp] theorem State.setStream_buffers (x : Stream) : (s.setStream x).buffers = s.buffers := rfl
@[simp] theorem State.setStream_recency (x : Stream) : (s.setStream x).recency = s.recency := rfl
@[simp] theorem State.setStream_queue (x : Stream) : (s.setStream x).queue = s.queue := rfl
@[simp] theorem State.setStream_devices (x : Stream) : (s.setStream x).devices = s.devices := rfl
@[simp] theorem State.setStream_requests (x : Stream) : (s.setStream x).requests = s.requests := rfl
@[simp] theorem State.setStream_link (x : Stream) : (s.setStream x).link = s.link := rfl
@[simp] theorem State.setStream_transmit (x : Stream) : (s.setStream x).transmit = s.transmit := rfl
@[simp] theorem State.setStream_stream (x : Stream) : (s.setStream x).stream = x := rfl
@[simp] theorem State.setStream_watches (x : Stream) : (s.setStream x).watches = s.watches := rfl
@[simp] theorem State.setStream_supply (x : Stream) : (s.setStream x).supply = s.supply := rfl
@[simp] theorem State.setStream_flags (x : Stream) : (s.setStream x).flags = s.flags := rfl
@[simp] theorem State.setStream_management (x : Stream) : (s.setStream x).management = s.management := rfl

/-! ### setManagement -/

@[simp] theorem State.setManagement_now (m : Management) : (s.setManagement m).now = s.now := rfl
@[simp] theorem State.setManagement_pending (m : Management) : (s.setManagement m).pending = s.pending := rfl
@[simp] theorem State.setManagement_resetHeld (m : Management) : (s.setManagement m).resetHeld = s.resetHeld := rfl
@[simp] theorem State.setManagement_flushreqLow (m : Management) : (s.setManagement m).flushreqLow = s.flushreqLow := rfl
@[simp] theorem State.setManagement_straps (m : Management) : (s.setManagement m).straps = s.straps := rfl
@[simp] theorem State.setManagement_part (m : Management) : (s.setManagement m).part = s.part := rfl
@[simp] theorem State.setManagement_startup (m : Management) : (s.setManagement m).startup = s.startup := rfl
@[simp] theorem State.setManagement_port (m : Management) : (s.setManagement m).port = s.port := rfl
@[simp] theorem State.setManagement_settings (m : Management) : (s.setManagement m).settings = s.settings := rfl
@[simp] theorem State.setManagement_regions (m : Management) : (s.setManagement m).regions = s.regions := rfl
@[simp] theorem State.setManagement_buffers (m : Management) : (s.setManagement m).buffers = s.buffers := rfl
@[simp] theorem State.setManagement_recency (m : Management) : (s.setManagement m).recency = s.recency := rfl
@[simp] theorem State.setManagement_queue (m : Management) : (s.setManagement m).queue = s.queue := rfl
@[simp] theorem State.setManagement_devices (m : Management) : (s.setManagement m).devices = s.devices := rfl
@[simp] theorem State.setManagement_requests (m : Management) : (s.setManagement m).requests = s.requests := rfl
@[simp] theorem State.setManagement_link (m : Management) : (s.setManagement m).link = s.link := rfl
@[simp] theorem State.setManagement_transmit (m : Management) : (s.setManagement m).transmit = s.transmit := rfl
@[simp] theorem State.setManagement_stream (m : Management) : (s.setManagement m).stream = s.stream := rfl
@[simp] theorem State.setManagement_watches (m : Management) : (s.setManagement m).watches = s.watches := rfl
@[simp] theorem State.setManagement_supply (m : Management) : (s.setManagement m).supply = s.supply := rfl
@[simp] theorem State.setManagement_flags (m : Management) : (s.setManagement m).flags = s.flags := rfl
@[simp] theorem State.setManagement_management (m : Management) : (s.setManagement m).management = m := rfl

/-! ### setSupply -/

@[simp] theorem State.setSupply_now (x : SupplyState) (sag recovery : Option Time) : (s.setSupply x sag recovery).now = s.now := rfl
@[simp] theorem State.setSupply_pending (x : SupplyState) (sag recovery : Option Time) : (s.setSupply x sag recovery).pending = s.pending := rfl
@[simp] theorem State.setSupply_resetHeld (x : SupplyState) (sag recovery : Option Time) : (s.setSupply x sag recovery).resetHeld = s.resetHeld := rfl
@[simp] theorem State.setSupply_flushreqLow (x : SupplyState) (sag recovery : Option Time) : (s.setSupply x sag recovery).flushreqLow = s.flushreqLow := rfl
@[simp] theorem State.setSupply_straps (x : SupplyState) (sag recovery : Option Time) : (s.setSupply x sag recovery).straps = s.straps := rfl
@[simp] theorem State.setSupply_part (x : SupplyState) (sag recovery : Option Time) : (s.setSupply x sag recovery).part = s.part := rfl
@[simp] theorem State.setSupply_startup (x : SupplyState) (sag recovery : Option Time) : (s.setSupply x sag recovery).startup = s.startup := rfl
@[simp] theorem State.setSupply_port (x : SupplyState) (sag recovery : Option Time) : (s.setSupply x sag recovery).port = s.port := rfl
@[simp] theorem State.setSupply_settings (x : SupplyState) (sag recovery : Option Time) : (s.setSupply x sag recovery).settings = s.settings := rfl
@[simp] theorem State.setSupply_regions (x : SupplyState) (sag recovery : Option Time) : (s.setSupply x sag recovery).regions = s.regions := rfl
@[simp] theorem State.setSupply_buffers (x : SupplyState) (sag recovery : Option Time) : (s.setSupply x sag recovery).buffers = s.buffers := rfl
@[simp] theorem State.setSupply_recency (x : SupplyState) (sag recovery : Option Time) : (s.setSupply x sag recovery).recency = s.recency := rfl
@[simp] theorem State.setSupply_queue (x : SupplyState) (sag recovery : Option Time) : (s.setSupply x sag recovery).queue = s.queue := rfl
@[simp] theorem State.setSupply_devices (x : SupplyState) (sag recovery : Option Time) : (s.setSupply x sag recovery).devices = s.devices := rfl
@[simp] theorem State.setSupply_requests (x : SupplyState) (sag recovery : Option Time) : (s.setSupply x sag recovery).requests = s.requests := rfl
@[simp] theorem State.setSupply_link (x : SupplyState) (sag recovery : Option Time) : (s.setSupply x sag recovery).link = s.link := rfl
@[simp] theorem State.setSupply_transmit (x : SupplyState) (sag recovery : Option Time) : (s.setSupply x sag recovery).transmit = s.transmit := rfl
@[simp] theorem State.setSupply_stream (x : SupplyState) (sag recovery : Option Time) : (s.setSupply x sag recovery).stream = s.stream := rfl
@[simp] theorem State.setSupply_watches (x : SupplyState) (sag recovery : Option Time) : (s.setSupply x sag recovery).watches = s.watches := rfl
@[simp] theorem State.setSupply_supply (x : SupplyState) (sag recovery : Option Time) : (s.setSupply x sag recovery).supply = { s.supply with state := x, sagTimer := sag, recoveryTimer := recovery } := rfl
@[simp] theorem State.setSupply_flags (x : SupplyState) (sag recovery : Option Time) : (s.setSupply x sag recovery).flags = s.flags := rfl
@[simp] theorem State.setSupply_management (x : SupplyState) (sag recovery : Option Time) : (s.setSupply x sag recovery).management = s.management := rfl

/-! ### raise -/

@[simp] theorem State.raise_now (f : EventFlag) : (s.raise f).now = s.now := rfl
@[simp] theorem State.raise_pending (f : EventFlag) : (s.raise f).pending = s.pending := rfl
@[simp] theorem State.raise_resetHeld (f : EventFlag) : (s.raise f).resetHeld = s.resetHeld := rfl
@[simp] theorem State.raise_flushreqLow (f : EventFlag) : (s.raise f).flushreqLow = s.flushreqLow := rfl
@[simp] theorem State.raise_straps (f : EventFlag) : (s.raise f).straps = s.straps := rfl
@[simp] theorem State.raise_part (f : EventFlag) : (s.raise f).part = s.part := rfl
@[simp] theorem State.raise_startup (f : EventFlag) : (s.raise f).startup = s.startup := rfl
@[simp] theorem State.raise_port (f : EventFlag) : (s.raise f).port = s.port := rfl
@[simp] theorem State.raise_settings (f : EventFlag) : (s.raise f).settings = s.settings := rfl
@[simp] theorem State.raise_regions (f : EventFlag) : (s.raise f).regions = s.regions := rfl
@[simp] theorem State.raise_buffers (f : EventFlag) : (s.raise f).buffers = s.buffers := rfl
@[simp] theorem State.raise_recency (f : EventFlag) : (s.raise f).recency = s.recency := rfl
@[simp] theorem State.raise_queue (f : EventFlag) : (s.raise f).queue = s.queue := rfl
@[simp] theorem State.raise_devices (f : EventFlag) : (s.raise f).devices = s.devices := rfl
@[simp] theorem State.raise_requests (f : EventFlag) : (s.raise f).requests = s.requests := rfl
@[simp] theorem State.raise_link (f : EventFlag) : (s.raise f).link = s.link := rfl
@[simp] theorem State.raise_transmit (f : EventFlag) : (s.raise f).transmit = s.transmit := rfl
@[simp] theorem State.raise_stream (f : EventFlag) : (s.raise f).stream = s.stream := rfl
@[simp] theorem State.raise_watches (f : EventFlag) : (s.raise f).watches = s.watches := rfl
@[simp] theorem State.raise_supply (f : EventFlag) : (s.raise f).supply = s.supply := rfl
@[simp] theorem State.raise_flags (f : EventFlag) : (s.raise f).flags = s.flags ||| f.mask := rfl
@[simp] theorem State.raise_management (f : EventFlag) : (s.raise f).management = s.management := rfl

/-! ### clearFlags -/

@[simp] theorem State.clearFlags_now (ones : BitVec 16) : (s.clearFlags ones).now = s.now := rfl
@[simp] theorem State.clearFlags_pending (ones : BitVec 16) : (s.clearFlags ones).pending = s.pending := rfl
@[simp] theorem State.clearFlags_resetHeld (ones : BitVec 16) : (s.clearFlags ones).resetHeld = s.resetHeld := rfl
@[simp] theorem State.clearFlags_flushreqLow (ones : BitVec 16) : (s.clearFlags ones).flushreqLow = s.flushreqLow := rfl
@[simp] theorem State.clearFlags_straps (ones : BitVec 16) : (s.clearFlags ones).straps = s.straps := rfl
@[simp] theorem State.clearFlags_part (ones : BitVec 16) : (s.clearFlags ones).part = s.part := rfl
@[simp] theorem State.clearFlags_startup (ones : BitVec 16) : (s.clearFlags ones).startup = s.startup := rfl
@[simp] theorem State.clearFlags_port (ones : BitVec 16) : (s.clearFlags ones).port = s.port := rfl
@[simp] theorem State.clearFlags_settings (ones : BitVec 16) : (s.clearFlags ones).settings = s.settings := rfl
@[simp] theorem State.clearFlags_regions (ones : BitVec 16) : (s.clearFlags ones).regions = s.regions := rfl
@[simp] theorem State.clearFlags_buffers (ones : BitVec 16) : (s.clearFlags ones).buffers = s.buffers := rfl
@[simp] theorem State.clearFlags_recency (ones : BitVec 16) : (s.clearFlags ones).recency = s.recency := rfl
@[simp] theorem State.clearFlags_queue (ones : BitVec 16) : (s.clearFlags ones).queue = s.queue := rfl
@[simp] theorem State.clearFlags_devices (ones : BitVec 16) : (s.clearFlags ones).devices = s.devices := rfl
@[simp] theorem State.clearFlags_requests (ones : BitVec 16) : (s.clearFlags ones).requests = s.requests := rfl
@[simp] theorem State.clearFlags_link (ones : BitVec 16) : (s.clearFlags ones).link = s.link := rfl
@[simp] theorem State.clearFlags_transmit (ones : BitVec 16) : (s.clearFlags ones).transmit = s.transmit := rfl
@[simp] theorem State.clearFlags_stream (ones : BitVec 16) : (s.clearFlags ones).stream = s.stream := rfl
@[simp] theorem State.clearFlags_watches (ones : BitVec 16) : (s.clearFlags ones).watches = s.watches := rfl
@[simp] theorem State.clearFlags_supply (ones : BitVec 16) : (s.clearFlags ones).supply = s.supply := rfl
@[simp] theorem State.clearFlags_flags (ones : BitVec 16) : (s.clearFlags ones).flags = s.flags &&& ~~~ones := rfl
@[simp] theorem State.clearFlags_management (ones : BitVec 16) : (s.clearFlags ones).management = s.management := rfl

/-! ### advanceTo -/

@[simp] theorem State.advanceTo_now (t : Time) : (s.advanceTo t).now = max s.now t := rfl
@[simp] theorem State.advanceTo_pending (t : Time) : (s.advanceTo t).pending = s.pending := rfl
@[simp] theorem State.advanceTo_resetHeld (t : Time) : (s.advanceTo t).resetHeld = s.resetHeld := rfl
@[simp] theorem State.advanceTo_flushreqLow (t : Time) : (s.advanceTo t).flushreqLow = s.flushreqLow := rfl
@[simp] theorem State.advanceTo_straps (t : Time) : (s.advanceTo t).straps = s.straps := rfl
@[simp] theorem State.advanceTo_part (t : Time) : (s.advanceTo t).part = s.part := rfl
@[simp] theorem State.advanceTo_startup (t : Time) : (s.advanceTo t).startup = s.startup := rfl
@[simp] theorem State.advanceTo_port (t : Time) : (s.advanceTo t).port = s.port := rfl
@[simp] theorem State.advanceTo_settings (t : Time) : (s.advanceTo t).settings = s.settings := rfl
@[simp] theorem State.advanceTo_regions (t : Time) : (s.advanceTo t).regions = s.regions := rfl
@[simp] theorem State.advanceTo_buffers (t : Time) : (s.advanceTo t).buffers = s.buffers := rfl
@[simp] theorem State.advanceTo_recency (t : Time) : (s.advanceTo t).recency = s.recency := rfl
@[simp] theorem State.advanceTo_queue (t : Time) : (s.advanceTo t).queue = s.queue := rfl
@[simp] theorem State.advanceTo_devices (t : Time) : (s.advanceTo t).devices = s.devices := rfl
@[simp] theorem State.advanceTo_requests (t : Time) : (s.advanceTo t).requests = s.requests := rfl
@[simp] theorem State.advanceTo_link (t : Time) : (s.advanceTo t).link = s.link := rfl
@[simp] theorem State.advanceTo_transmit (t : Time) : (s.advanceTo t).transmit = s.transmit := rfl
@[simp] theorem State.advanceTo_stream (t : Time) : (s.advanceTo t).stream = s.stream := rfl
@[simp] theorem State.advanceTo_watches (t : Time) : (s.advanceTo t).watches = s.watches := rfl
@[simp] theorem State.advanceTo_supply (t : Time) : (s.advanceTo t).supply = s.supply := rfl
@[simp] theorem State.advanceTo_flags (t : Time) : (s.advanceTo t).flags = s.flags := rfl
@[simp] theorem State.advanceTo_management (t : Time) : (s.advanceTo t).management = s.management := rfl

/-! ### touch -/

@[simp] theorem State.touch_now (b : Fin 16) : (s.touch b).now = s.now := rfl
@[simp] theorem State.touch_pending (b : Fin 16) : (s.touch b).pending = s.pending := rfl
@[simp] theorem State.touch_resetHeld (b : Fin 16) : (s.touch b).resetHeld = s.resetHeld := rfl
@[simp] theorem State.touch_flushreqLow (b : Fin 16) : (s.touch b).flushreqLow = s.flushreqLow := rfl
@[simp] theorem State.touch_straps (b : Fin 16) : (s.touch b).straps = s.straps := rfl
@[simp] theorem State.touch_part (b : Fin 16) : (s.touch b).part = s.part := rfl
@[simp] theorem State.touch_startup (b : Fin 16) : (s.touch b).startup = s.startup := rfl
@[simp] theorem State.touch_port (b : Fin 16) : (s.touch b).port = s.port := rfl
@[simp] theorem State.touch_settings (b : Fin 16) : (s.touch b).settings = s.settings := rfl
@[simp] theorem State.touch_regions (b : Fin 16) : (s.touch b).regions = s.regions := rfl
@[simp] theorem State.touch_buffers (b : Fin 16) : (s.touch b).buffers = s.buffers := rfl
@[simp] theorem State.touch_recency (b : Fin 16) : (s.touch b).recency = b :: s.recency.erase b := rfl
@[simp] theorem State.touch_queue (b : Fin 16) : (s.touch b).queue = s.queue := rfl
@[simp] theorem State.touch_devices (b : Fin 16) : (s.touch b).devices = s.devices := rfl
@[simp] theorem State.touch_requests (b : Fin 16) : (s.touch b).requests = s.requests := rfl
@[simp] theorem State.touch_link (b : Fin 16) : (s.touch b).link = s.link := rfl
@[simp] theorem State.touch_transmit (b : Fin 16) : (s.touch b).transmit = s.transmit := rfl
@[simp] theorem State.touch_stream (b : Fin 16) : (s.touch b).stream = s.stream := rfl
@[simp] theorem State.touch_watches (b : Fin 16) : (s.touch b).watches = s.watches := rfl
@[simp] theorem State.touch_supply (b : Fin 16) : (s.touch b).supply = s.supply := rfl
@[simp] theorem State.touch_flags (b : Fin 16) : (s.touch b).flags = s.flags := rfl
@[simp] theorem State.touch_management (b : Fin 16) : (s.touch b).management = s.management := rfl

/-! ### barrierRequest -/

@[simp] theorem State.barrierRequest_now : (s.barrierRequest).now = s.now := rfl
@[simp] theorem State.barrierRequest_pending : (s.barrierRequest).pending = s.pending := rfl
@[simp] theorem State.barrierRequest_resetHeld : (s.barrierRequest).resetHeld = s.resetHeld := rfl
@[simp] theorem State.barrierRequest_flushreqLow : (s.barrierRequest).flushreqLow = s.flushreqLow := rfl
@[simp] theorem State.barrierRequest_straps : (s.barrierRequest).straps = s.straps := rfl
@[simp] theorem State.barrierRequest_part : (s.barrierRequest).part = s.part := rfl
@[simp] theorem State.barrierRequest_startup : (s.barrierRequest).startup = s.startup := rfl
@[simp] theorem State.barrierRequest_port : (s.barrierRequest).port = s.port := rfl
@[simp] theorem State.barrierRequest_settings : (s.barrierRequest).settings = s.settings := rfl
@[simp] theorem State.barrierRequest_regions : (s.barrierRequest).regions = s.regions := rfl
@[simp] theorem State.barrierRequest_buffers : (s.barrierRequest).buffers = s.buffers := rfl
@[simp] theorem State.barrierRequest_recency : (s.barrierRequest).recency = s.recency := rfl
@[simp] theorem State.barrierRequest_queue : (s.barrierRequest).queue = Queue.barrier s.queue := rfl
@[simp] theorem State.barrierRequest_devices : (s.barrierRequest).devices = s.devices := rfl
@[simp] theorem State.barrierRequest_requests : (s.barrierRequest).requests = s.requests := rfl
@[simp] theorem State.barrierRequest_link : (s.barrierRequest).link = s.link := rfl
@[simp] theorem State.barrierRequest_transmit : (s.barrierRequest).transmit = s.transmit := rfl
@[simp] theorem State.barrierRequest_stream : (s.barrierRequest).stream = s.stream := rfl
@[simp] theorem State.barrierRequest_watches : (s.barrierRequest).watches = s.watches := rfl
@[simp] theorem State.barrierRequest_supply : (s.barrierRequest).supply = s.supply := rfl
@[simp] theorem State.barrierRequest_flags : (s.barrierRequest).flags = s.flags := rfl
@[simp] theorem State.barrierRequest_management : (s.barrierRequest).management = s.management := rfl

/-! ### givePush -/

@[simp] theorem State.givePush_now (b : Fin 16) : (s.givePush b).now = s.now := rfl
@[simp] theorem State.givePush_pending (b : Fin 16) : (s.givePush b).pending = s.pending := rfl
@[simp] theorem State.givePush_resetHeld (b : Fin 16) : (s.givePush b).resetHeld = s.resetHeld := rfl
@[simp] theorem State.givePush_flushreqLow (b : Fin 16) : (s.givePush b).flushreqLow = s.flushreqLow := rfl
@[simp] theorem State.givePush_straps (b : Fin 16) : (s.givePush b).straps = s.straps := rfl
@[simp] theorem State.givePush_part (b : Fin 16) : (s.givePush b).part = s.part := rfl
@[simp] theorem State.givePush_startup (b : Fin 16) : (s.givePush b).startup = s.startup := rfl
@[simp] theorem State.givePush_port (b : Fin 16) : (s.givePush b).port = s.port := rfl
@[simp] theorem State.givePush_settings (b : Fin 16) : (s.givePush b).settings = s.settings := rfl
@[simp] theorem State.givePush_regions (b : Fin 16) : (s.givePush b).regions = s.regions := rfl
@[simp] theorem State.givePush_buffers (b : Fin 16) : (s.givePush b).buffers = s.buffers := rfl
@[simp] theorem State.givePush_recency (b : Fin 16) : (s.givePush b).recency = s.recency := rfl
@[simp] theorem State.givePush_queue (b : Fin 16) : (s.givePush b).queue = Queue.givePush s.queue b := rfl
@[simp] theorem State.givePush_devices (b : Fin 16) : (s.givePush b).devices = s.devices := rfl
@[simp] theorem State.givePush_requests (b : Fin 16) : (s.givePush b).requests = s.requests := rfl
@[simp] theorem State.givePush_link (b : Fin 16) : (s.givePush b).link = s.link := rfl
@[simp] theorem State.givePush_transmit (b : Fin 16) : (s.givePush b).transmit = s.transmit := rfl
@[simp] theorem State.givePush_stream (b : Fin 16) : (s.givePush b).stream = s.stream := rfl
@[simp] theorem State.givePush_watches (b : Fin 16) : (s.givePush b).watches = s.watches := rfl
@[simp] theorem State.givePush_supply (b : Fin 16) : (s.givePush b).supply = s.supply := rfl
@[simp] theorem State.givePush_flags (b : Fin 16) : (s.givePush b).flags = s.flags := rfl
@[simp] theorem State.givePush_management (b : Fin 16) : (s.givePush b).management = s.management := rfl

/-! ### request -/

@[simp] theorem State.request_now (o : Operation) : (s.request o).now = s.now := rfl
@[simp] theorem State.request_pending (o : Operation) : (s.request o).pending = s.pending := rfl
@[simp] theorem State.request_resetHeld (o : Operation) : (s.request o).resetHeld = s.resetHeld := rfl
@[simp] theorem State.request_flushreqLow (o : Operation) : (s.request o).flushreqLow = s.flushreqLow := rfl
@[simp] theorem State.request_straps (o : Operation) : (s.request o).straps = s.straps := rfl
@[simp] theorem State.request_part (o : Operation) : (s.request o).part = s.part := rfl
@[simp] theorem State.request_startup (o : Operation) : (s.request o).startup = s.startup := rfl
@[simp] theorem State.request_port (o : Operation) : (s.request o).port = s.port := rfl
@[simp] theorem State.request_settings (o : Operation) : (s.request o).settings = s.settings := rfl
@[simp] theorem State.request_regions (o : Operation) : (s.request o).regions = s.regions := rfl
@[simp] theorem State.request_buffers (o : Operation) : (s.request o).buffers = s.buffers := rfl
@[simp] theorem State.request_recency (o : Operation) : (s.request o).recency = s.recency := rfl
@[simp] theorem State.request_queue (o : Operation) : (s.request o).queue = s.queue := rfl
@[simp] theorem State.request_devices (o : Operation) : (s.request o).devices = s.devices := rfl
@[simp] theorem State.request_requests (o : Operation) : (s.request o).requests = s.requests ++ [o] := rfl
@[simp] theorem State.request_link (o : Operation) : (s.request o).link = s.link := rfl
@[simp] theorem State.request_transmit (o : Operation) : (s.request o).transmit = s.transmit := rfl
@[simp] theorem State.request_stream (o : Operation) : (s.request o).stream = s.stream := rfl
@[simp] theorem State.request_watches (o : Operation) : (s.request o).watches = s.watches := rfl
@[simp] theorem State.request_supply (o : Operation) : (s.request o).supply = s.supply := rfl
@[simp] theorem State.request_flags (o : Operation) : (s.request o).flags = s.flags := rfl
@[simp] theorem State.request_management (o : Operation) : (s.request o).management = s.management := rfl

/-! ### withdraw -/

@[simp] theorem State.withdraw_now (k : OperationKind) (d : Fin 4) : (s.withdraw k d).now = s.now := rfl
@[simp] theorem State.withdraw_pending (k : OperationKind) (d : Fin 4) : (s.withdraw k d).pending = s.pending := rfl
@[simp] theorem State.withdraw_resetHeld (k : OperationKind) (d : Fin 4) : (s.withdraw k d).resetHeld = s.resetHeld := rfl
@[simp] theorem State.withdraw_flushreqLow (k : OperationKind) (d : Fin 4) : (s.withdraw k d).flushreqLow = s.flushreqLow := rfl
@[simp] theorem State.withdraw_straps (k : OperationKind) (d : Fin 4) : (s.withdraw k d).straps = s.straps := rfl
@[simp] theorem State.withdraw_part (k : OperationKind) (d : Fin 4) : (s.withdraw k d).part = s.part := rfl
@[simp] theorem State.withdraw_startup (k : OperationKind) (d : Fin 4) : (s.withdraw k d).startup = s.startup := rfl
@[simp] theorem State.withdraw_port (k : OperationKind) (d : Fin 4) : (s.withdraw k d).port = s.port := rfl
@[simp] theorem State.withdraw_settings (k : OperationKind) (d : Fin 4) : (s.withdraw k d).settings = s.settings := rfl
@[simp] theorem State.withdraw_regions (k : OperationKind) (d : Fin 4) : (s.withdraw k d).regions = s.regions := rfl
@[simp] theorem State.withdraw_buffers (k : OperationKind) (d : Fin 4) : (s.withdraw k d).buffers = s.buffers := rfl
@[simp] theorem State.withdraw_recency (k : OperationKind) (d : Fin 4) : (s.withdraw k d).recency = s.recency := rfl
@[simp] theorem State.withdraw_queue (k : OperationKind) (d : Fin 4) : (s.withdraw k d).queue = s.queue := rfl
@[simp] theorem State.withdraw_devices (k : OperationKind) (d : Fin 4) : (s.withdraw k d).devices = s.devices := rfl
@[simp] theorem State.withdraw_link (k : OperationKind) (d : Fin 4) : (s.withdraw k d).link = s.link := rfl
@[simp] theorem State.withdraw_transmit (k : OperationKind) (d : Fin 4) : (s.withdraw k d).transmit = s.transmit := rfl
@[simp] theorem State.withdraw_stream (k : OperationKind) (d : Fin 4) : (s.withdraw k d).stream = s.stream := rfl
@[simp] theorem State.withdraw_watches (k : OperationKind) (d : Fin 4) : (s.withdraw k d).watches = s.watches := rfl
@[simp] theorem State.withdraw_supply (k : OperationKind) (d : Fin 4) : (s.withdraw k d).supply = s.supply := rfl
@[simp] theorem State.withdraw_flags (k : OperationKind) (d : Fin 4) : (s.withdraw k d).flags = s.flags := rfl
@[simp] theorem State.withdraw_management (k : OperationKind) (d : Fin 4) : (s.withdraw k d).management = s.management := rfl

/-! ### cancelFetch -/

@[simp] theorem State.cancelFetch_now (b : Fin 16) : (s.cancelFetch b).now = s.now := rfl
@[simp] theorem State.cancelFetch_pending (b : Fin 16) : (s.cancelFetch b).pending = s.pending := rfl
@[simp] theorem State.cancelFetch_resetHeld (b : Fin 16) : (s.cancelFetch b).resetHeld = s.resetHeld := rfl
@[simp] theorem State.cancelFetch_flushreqLow (b : Fin 16) : (s.cancelFetch b).flushreqLow = s.flushreqLow := rfl
@[simp] theorem State.cancelFetch_straps (b : Fin 16) : (s.cancelFetch b).straps = s.straps := rfl
@[simp] theorem State.cancelFetch_part (b : Fin 16) : (s.cancelFetch b).part = s.part := rfl
@[simp] theorem State.cancelFetch_startup (b : Fin 16) : (s.cancelFetch b).startup = s.startup := rfl
@[simp] theorem State.cancelFetch_port (b : Fin 16) : (s.cancelFetch b).port = s.port := rfl
@[simp] theorem State.cancelFetch_settings (b : Fin 16) : (s.cancelFetch b).settings = s.settings := rfl
@[simp] theorem State.cancelFetch_regions (b : Fin 16) : (s.cancelFetch b).regions = s.regions := rfl
@[simp] theorem State.cancelFetch_recency (b : Fin 16) : (s.cancelFetch b).recency = s.recency := rfl
@[simp] theorem State.cancelFetch_queue (b : Fin 16) : (s.cancelFetch b).queue = s.queue := rfl
@[simp] theorem State.cancelFetch_devices (b : Fin 16) : (s.cancelFetch b).devices = s.devices := rfl
@[simp] theorem State.cancelFetch_link (b : Fin 16) : (s.cancelFetch b).link = s.link := rfl
@[simp] theorem State.cancelFetch_transmit (b : Fin 16) : (s.cancelFetch b).transmit = s.transmit := rfl
@[simp] theorem State.cancelFetch_stream (b : Fin 16) : (s.cancelFetch b).stream = s.stream := rfl
@[simp] theorem State.cancelFetch_watches (b : Fin 16) : (s.cancelFetch b).watches = s.watches := rfl
@[simp] theorem State.cancelFetch_supply (b : Fin 16) : (s.cancelFetch b).supply = s.supply := rfl
@[simp] theorem State.cancelFetch_flags (b : Fin 16) : (s.cancelFetch b).flags = s.flags := rfl
@[simp] theorem State.cancelFetch_management (b : Fin 16) : (s.cancelFetch b).management = s.management := rfl

/-! ### releaseSpan -/

@[simp] theorem State.releaseSpan_now (d : Fin 4) : (s.releaseSpan d).now = s.now := rfl
@[simp] theorem State.releaseSpan_pending (d : Fin 4) : (s.releaseSpan d).pending = s.pending := rfl
@[simp] theorem State.releaseSpan_resetHeld (d : Fin 4) : (s.releaseSpan d).resetHeld = s.resetHeld := rfl
@[simp] theorem State.releaseSpan_flushreqLow (d : Fin 4) : (s.releaseSpan d).flushreqLow = s.flushreqLow := rfl
@[simp] theorem State.releaseSpan_straps (d : Fin 4) : (s.releaseSpan d).straps = s.straps := rfl
@[simp] theorem State.releaseSpan_part (d : Fin 4) : (s.releaseSpan d).part = s.part := rfl
@[simp] theorem State.releaseSpan_startup (d : Fin 4) : (s.releaseSpan d).startup = s.startup := rfl
@[simp] theorem State.releaseSpan_port (d : Fin 4) : (s.releaseSpan d).port = s.port := rfl
@[simp] theorem State.releaseSpan_settings (d : Fin 4) : (s.releaseSpan d).settings = s.settings := rfl
@[simp] theorem State.releaseSpan_regions (d : Fin 4) : (s.releaseSpan d).regions = s.regions := rfl
@[simp] theorem State.releaseSpan_buffers (d : Fin 4) : (s.releaseSpan d).buffers = s.buffers := rfl
@[simp] theorem State.releaseSpan_recency (d : Fin 4) : (s.releaseSpan d).recency = s.recency := rfl
@[simp] theorem State.releaseSpan_queue (d : Fin 4) : (s.releaseSpan d).queue = s.queue := rfl
@[simp] theorem State.releaseSpan_devices (d : Fin 4) : (s.releaseSpan d).devices = s.devices := rfl
@[simp] theorem State.releaseSpan_requests (d : Fin 4) : (s.releaseSpan d).requests = s.requests := rfl
@[simp] theorem State.releaseSpan_link (d : Fin 4) : (s.releaseSpan d).link = s.link := rfl
@[simp] theorem State.releaseSpan_transmit (d : Fin 4) : (s.releaseSpan d).transmit = s.transmit.set d none := rfl
@[simp] theorem State.releaseSpan_stream (d : Fin 4) : (s.releaseSpan d).stream = s.stream := rfl
@[simp] theorem State.releaseSpan_watches (d : Fin 4) : (s.releaseSpan d).watches = s.watches := rfl
@[simp] theorem State.releaseSpan_supply (d : Fin 4) : (s.releaseSpan d).supply = s.supply := rfl
@[simp] theorem State.releaseSpan_flags (d : Fin 4) : (s.releaseSpan d).flags = s.flags := rfl
@[simp] theorem State.releaseSpan_management (d : Fin 4) : (s.releaseSpan d).management = s.management := rfl

/-! ### exitHoldup -/

@[simp] theorem State.exitHoldup_now : (s.exitHoldup).now = s.now := rfl
@[simp] theorem State.exitHoldup_pending : (s.exitHoldup).pending = s.pending := rfl
@[simp] theorem State.exitHoldup_resetHeld : (s.exitHoldup).resetHeld = s.resetHeld := rfl
@[simp] theorem State.exitHoldup_flushreqLow : (s.exitHoldup).flushreqLow = s.flushreqLow := rfl
@[simp] theorem State.exitHoldup_straps : (s.exitHoldup).straps = s.straps := rfl
@[simp] theorem State.exitHoldup_part : (s.exitHoldup).part = .running := rfl
@[simp] theorem State.exitHoldup_startup : (s.exitHoldup).startup = s.startup := rfl
@[simp] theorem State.exitHoldup_port : (s.exitHoldup).port = s.port := rfl
@[simp] theorem State.exitHoldup_settings : (s.exitHoldup).settings = s.settings := rfl
@[simp] theorem State.exitHoldup_regions : (s.exitHoldup).regions = s.regions := rfl
@[simp] theorem State.exitHoldup_buffers : (s.exitHoldup).buffers = s.buffers := rfl
@[simp] theorem State.exitHoldup_recency : (s.exitHoldup).recency = s.recency := rfl
@[simp] theorem State.exitHoldup_queue : (s.exitHoldup).queue = s.queue := rfl
@[simp] theorem State.exitHoldup_devices : (s.exitHoldup).devices = s.devices := rfl
@[simp] theorem State.exitHoldup_requests : (s.exitHoldup).requests = s.requests := rfl
@[simp] theorem State.exitHoldup_link : (s.exitHoldup).link = s.link := rfl
@[simp] theorem State.exitHoldup_transmit : (s.exitHoldup).transmit = s.transmit := rfl
@[simp] theorem State.exitHoldup_stream : (s.exitHoldup).stream = s.stream := rfl
@[simp] theorem State.exitHoldup_watches : (s.exitHoldup).watches = s.watches := rfl
@[simp] theorem State.exitHoldup_supply : (s.exitHoldup).supply = { s.supply with count := s.settings.budget } := rfl
@[simp] theorem State.exitHoldup_flags : (s.exitHoldup).flags = s.flags := rfl
@[simp] theorem State.exitHoldup_management : (s.exitHoldup).management = s.management := rfl

/-! ### closeTransaction -/

@[simp] theorem State.closeTransaction_now : (s.closeTransaction).now = s.now := rfl
@[simp] theorem State.closeTransaction_pending : (s.closeTransaction).pending = s.pending := rfl
@[simp] theorem State.closeTransaction_resetHeld : (s.closeTransaction).resetHeld = s.resetHeld := rfl
@[simp] theorem State.closeTransaction_flushreqLow : (s.closeTransaction).flushreqLow = s.flushreqLow := rfl
@[simp] theorem State.closeTransaction_straps : (s.closeTransaction).straps = s.straps := rfl
@[simp] theorem State.closeTransaction_part : (s.closeTransaction).part = s.part := rfl
@[simp] theorem State.closeTransaction_startup : (s.closeTransaction).startup = s.startup := rfl
@[simp] theorem State.closeTransaction_port : (s.closeTransaction).port = s.port := rfl
@[simp] theorem State.closeTransaction_settings : (s.closeTransaction).settings = s.settings := rfl
@[simp] theorem State.closeTransaction_regions : (s.closeTransaction).regions = s.regions := rfl
@[simp] theorem State.closeTransaction_buffers : (s.closeTransaction).buffers = s.buffers := rfl
@[simp] theorem State.closeTransaction_recency : (s.closeTransaction).recency = s.recency := rfl
@[simp] theorem State.closeTransaction_queue : (s.closeTransaction).queue = s.queue := rfl
@[simp] theorem State.closeTransaction_devices : (s.closeTransaction).devices = s.devices := rfl
@[simp] theorem State.closeTransaction_requests : (s.closeTransaction).requests = s.requests := rfl
@[simp] theorem State.closeTransaction_link : (s.closeTransaction).link = s.link := rfl
@[simp] theorem State.closeTransaction_transmit : (s.closeTransaction).transmit = s.transmit := rfl
@[simp] theorem State.closeTransaction_stream : (s.closeTransaction).stream = s.stream := rfl
@[simp] theorem State.closeTransaction_watches : (s.closeTransaction).watches = s.watches := rfl
@[simp] theorem State.closeTransaction_supply : (s.closeTransaction).supply = s.supply := rfl
@[simp] theorem State.closeTransaction_flags : (s.closeTransaction).flags = s.flags := rfl
@[simp] theorem State.closeTransaction_management : (s.closeTransaction).management = { s.management with transaction := .idle, shadow := none } := rfl

/-! ### applied -/

@[simp] theorem State.applied_now (x : ApplyStatus) : (s.applied x).now = s.now := rfl
@[simp] theorem State.applied_pending (x : ApplyStatus) : (s.applied x).pending = s.pending := rfl
@[simp] theorem State.applied_resetHeld (x : ApplyStatus) : (s.applied x).resetHeld = s.resetHeld := rfl
@[simp] theorem State.applied_flushreqLow (x : ApplyStatus) : (s.applied x).flushreqLow = s.flushreqLow := rfl
@[simp] theorem State.applied_straps (x : ApplyStatus) : (s.applied x).straps = s.straps := rfl
@[simp] theorem State.applied_part (x : ApplyStatus) : (s.applied x).part = s.part := rfl
@[simp] theorem State.applied_startup (x : ApplyStatus) : (s.applied x).startup = s.startup := rfl
@[simp] theorem State.applied_port (x : ApplyStatus) : (s.applied x).port = s.port := rfl
@[simp] theorem State.applied_settings (x : ApplyStatus) : (s.applied x).settings = s.settings := rfl
@[simp] theorem State.applied_regions (x : ApplyStatus) : (s.applied x).regions = s.regions := rfl
@[simp] theorem State.applied_buffers (x : ApplyStatus) : (s.applied x).buffers = s.buffers := rfl
@[simp] theorem State.applied_recency (x : ApplyStatus) : (s.applied x).recency = s.recency := rfl
@[simp] theorem State.applied_queue (x : ApplyStatus) : (s.applied x).queue = s.queue := rfl
@[simp] theorem State.applied_devices (x : ApplyStatus) : (s.applied x).devices = s.devices := rfl
@[simp] theorem State.applied_requests (x : ApplyStatus) : (s.applied x).requests = s.requests := rfl
@[simp] theorem State.applied_link (x : ApplyStatus) : (s.applied x).link = s.link := rfl
@[simp] theorem State.applied_transmit (x : ApplyStatus) : (s.applied x).transmit = s.transmit := rfl
@[simp] theorem State.applied_stream (x : ApplyStatus) : (s.applied x).stream = s.stream := rfl
@[simp] theorem State.applied_watches (x : ApplyStatus) : (s.applied x).watches = s.watches := rfl
@[simp] theorem State.applied_supply (x : ApplyStatus) : (s.applied x).supply = s.supply := rfl
@[simp] theorem State.applied_flags (x : ApplyStatus) : (s.applied x).flags = s.flags := rfl
@[simp] theorem State.applied_management (x : ApplyStatus) : (s.applied x).management = { s.management with applyStatus := x } := rfl

/-! ### commanded -/

@[simp] theorem State.commanded_now (x : CommandStatus) : (s.commanded x).now = s.now := rfl
@[simp] theorem State.commanded_pending (x : CommandStatus) : (s.commanded x).pending = s.pending := rfl
@[simp] theorem State.commanded_resetHeld (x : CommandStatus) : (s.commanded x).resetHeld = s.resetHeld := rfl
@[simp] theorem State.commanded_flushreqLow (x : CommandStatus) : (s.commanded x).flushreqLow = s.flushreqLow := rfl
@[simp] theorem State.commanded_straps (x : CommandStatus) : (s.commanded x).straps = s.straps := rfl
@[simp] theorem State.commanded_part (x : CommandStatus) : (s.commanded x).part = s.part := rfl
@[simp] theorem State.commanded_startup (x : CommandStatus) : (s.commanded x).startup = s.startup := rfl
@[simp] theorem State.commanded_port (x : CommandStatus) : (s.commanded x).port = s.port := rfl
@[simp] theorem State.commanded_settings (x : CommandStatus) : (s.commanded x).settings = s.settings := rfl
@[simp] theorem State.commanded_regions (x : CommandStatus) : (s.commanded x).regions = s.regions := rfl
@[simp] theorem State.commanded_buffers (x : CommandStatus) : (s.commanded x).buffers = s.buffers := rfl
@[simp] theorem State.commanded_recency (x : CommandStatus) : (s.commanded x).recency = s.recency := rfl
@[simp] theorem State.commanded_queue (x : CommandStatus) : (s.commanded x).queue = s.queue := rfl
@[simp] theorem State.commanded_devices (x : CommandStatus) : (s.commanded x).devices = s.devices := rfl
@[simp] theorem State.commanded_requests (x : CommandStatus) : (s.commanded x).requests = s.requests := rfl
@[simp] theorem State.commanded_link (x : CommandStatus) : (s.commanded x).link = s.link := rfl
@[simp] theorem State.commanded_transmit (x : CommandStatus) : (s.commanded x).transmit = s.transmit := rfl
@[simp] theorem State.commanded_stream (x : CommandStatus) : (s.commanded x).stream = s.stream := rfl
@[simp] theorem State.commanded_watches (x : CommandStatus) : (s.commanded x).watches = s.watches := rfl
@[simp] theorem State.commanded_supply (x : CommandStatus) : (s.commanded x).supply = s.supply := rfl
@[simp] theorem State.commanded_flags (x : CommandStatus) : (s.commanded x).flags = s.flags := rfl
@[simp] theorem State.commanded_management (x : CommandStatus) : (s.commanded x).management = { s.management with commandStatus := x } := rfl

end Sys2Proof.Machine
end

