-- ==== Sys2Proof/Laws/Frame.lean ====
section
/-! SUPPORT. What each named operation leaves unchanged: one lemma per operation, cited in place of its unfolding. -/
namespace Sys2Proof.Machine

/-- What holds at the start of a fold, and is kept by every step of it, holds at its end. -/
theorem foldl_invariant {α β : Type} {P : α → Prop} {f : α → β → α} {l : List β} {a : α} (h0 : P a)
    (h : ∀ a b, P a → P (f a b)) : P (l.foldl f a) := by
  induction l generalizing a with
  | nil => exact h0
  | cons b l ih => exact ih (h a b h0)

variable (s : State)

@[simp] theorem State.waitOn_frame (w : Wait) :
    (s.waitOn w).now = s.now ∧ (s.waitOn w).pending = s.pending ∧ (s.waitOn w).resetHeld = s.resetHeld ∧
    (s.waitOn w).flushreqLow = s.flushreqLow ∧ (s.waitOn w).straps = s.straps ∧ (s.waitOn w).part = s.part ∧
    (s.waitOn w).startup = s.startup ∧ (s.waitOn w).settings = s.settings ∧ (s.waitOn w).regions = s.regions ∧
    (s.waitOn w).buffers = s.buffers ∧ (s.waitOn w).recency = s.recency ∧ (s.waitOn w).queue = s.queue ∧
    (s.waitOn w).devices = s.devices ∧ (s.waitOn w).requests = s.requests ∧ (s.waitOn w).link = s.link ∧
    (s.waitOn w).transmit = s.transmit ∧ (s.waitOn w).stream = s.stream ∧ (s.waitOn w).watches = s.watches ∧
    (s.waitOn w).supply = s.supply ∧ (s.waitOn w).flags = s.flags ∧ (s.waitOn w).management = s.management := by
  unfold State.waitOn
  try dsimp only
  repeat' split
  all_goals simp

@[simp] theorem State.complete_frame (v : Byte) :
    (s.complete v).now = s.now ∧ (s.complete v).pending = s.pending ∧ (s.complete v).resetHeld = s.resetHeld ∧
    (s.complete v).flushreqLow = s.flushreqLow ∧ (s.complete v).straps = s.straps ∧ (s.complete v).part = s.part ∧
    (s.complete v).startup = s.startup ∧ (s.complete v).settings = s.settings ∧ (s.complete v).regions = s.regions ∧
    (s.complete v).buffers = s.buffers ∧ (s.complete v).recency = s.recency ∧ (s.complete v).queue = s.queue ∧
    (s.complete v).devices = s.devices ∧ (s.complete v).requests = s.requests ∧ (s.complete v).link = s.link ∧
    (s.complete v).transmit = s.transmit ∧ (s.complete v).stream = s.stream ∧ (s.complete v).watches = s.watches ∧
    (s.complete v).supply = s.supply ∧ (s.complete v).flags = s.flags ∧ (s.complete v).management = s.management := by
  unfold State.complete
  try dsimp only
  repeat' split
  all_goals simp

@[simp] theorem State.refuse_frame (c : Cause) :
    (s.refuse c).now = s.now ∧ (s.refuse c).pending = s.pending ∧ (s.refuse c).resetHeld = s.resetHeld ∧
    (s.refuse c).flushreqLow = s.flushreqLow ∧ (s.refuse c).straps = s.straps ∧ (s.refuse c).part = s.part ∧
    (s.refuse c).startup = s.startup ∧ (s.refuse c).settings = s.settings ∧ (s.refuse c).regions = s.regions ∧
    (s.refuse c).buffers = s.buffers ∧ (s.refuse c).recency = s.recency ∧ (s.refuse c).queue = s.queue ∧
    (s.refuse c).devices = s.devices ∧ (s.refuse c).requests = s.requests ∧ (s.refuse c).link = s.link ∧
    (s.refuse c).transmit = s.transmit ∧ (s.refuse c).stream = s.stream ∧ (s.refuse c).watches = s.watches ∧
    (s.refuse c).supply = s.supply ∧ (s.refuse c).management = s.management := by
  unfold State.refuse
  try dsimp only
  repeat' split
  all_goals simp

@[simp] theorem State.removeEntry_frame (b : Fin 16) :
    (s.removeEntry b).now = s.now ∧ (s.removeEntry b).pending = s.pending ∧ (s.removeEntry b).resetHeld = s.resetHeld ∧
    (s.removeEntry b).flushreqLow = s.flushreqLow ∧ (s.removeEntry b).straps = s.straps ∧
    (s.removeEntry b).part = s.part ∧ (s.removeEntry b).startup = s.startup ∧ (s.removeEntry b).port = s.port ∧
    (s.removeEntry b).settings = s.settings ∧ (s.removeEntry b).regions = s.regions ∧
    (s.removeEntry b).recency = s.recency ∧ (s.removeEntry b).devices = s.devices ∧
    (s.removeEntry b).requests = s.requests ∧ (s.removeEntry b).link = s.link ∧
    (s.removeEntry b).transmit = s.transmit ∧ (s.removeEntry b).stream = s.stream ∧
    (s.removeEntry b).watches = s.watches ∧ (s.removeEntry b).supply = s.supply ∧
    (s.removeEntry b).management = s.management := by
  unfold State.removeEntry
  try dsimp only
  repeat' split
  all_goals simp

@[simp] theorem State.orphanFetch_frame (b : Fin 16) :
    (s.orphanFetch b).now = s.now ∧ (s.orphanFetch b).pending = s.pending ∧ (s.orphanFetch b).resetHeld = s.resetHeld ∧
    (s.orphanFetch b).flushreqLow = s.flushreqLow ∧ (s.orphanFetch b).straps = s.straps ∧
    (s.orphanFetch b).part = s.part ∧ (s.orphanFetch b).startup = s.startup ∧ (s.orphanFetch b).port = s.port ∧
    (s.orphanFetch b).settings = s.settings ∧ (s.orphanFetch b).regions = s.regions ∧
    (s.orphanFetch b).buffers = s.buffers ∧ (s.orphanFetch b).recency = s.recency ∧ (s.orphanFetch b).queue = s.queue ∧
    (s.orphanFetch b).devices = s.devices ∧ (s.orphanFetch b).requests = s.requests ∧
    (s.orphanFetch b).transmit = s.transmit ∧ (s.orphanFetch b).stream = s.stream ∧
    (s.orphanFetch b).watches = s.watches ∧ (s.orphanFetch b).supply = s.supply ∧ (s.orphanFetch b).flags = s.flags ∧
    (s.orphanFetch b).management = s.management := by
  unfold State.orphanFetch
  try dsimp only
  repeat' split
  all_goals simp

@[simp] theorem State.requestFetch_frame (b : Fin 16) :
    (s.requestFetch b).now = s.now ∧ (s.requestFetch b).pending = s.pending ∧
    (s.requestFetch b).resetHeld = s.resetHeld ∧ (s.requestFetch b).flushreqLow = s.flushreqLow ∧
    (s.requestFetch b).straps = s.straps ∧ (s.requestFetch b).part = s.part ∧ (s.requestFetch b).startup = s.startup ∧
    (s.requestFetch b).port = s.port ∧ (s.requestFetch b).settings = s.settings ∧
    (s.requestFetch b).regions = s.regions ∧ (s.requestFetch b).recency = s.recency ∧
    (s.requestFetch b).queue = s.queue ∧ (s.requestFetch b).devices = s.devices ∧ (s.requestFetch b).link = s.link ∧
    (s.requestFetch b).transmit = s.transmit ∧ (s.requestFetch b).stream = s.stream ∧
    (s.requestFetch b).watches = s.watches ∧ (s.requestFetch b).supply = s.supply ∧
    (s.requestFetch b).flags = s.flags ∧ (s.requestFetch b).management = s.management := by
  unfold State.requestFetch
  try dsimp only
  repeat' split
  all_goals simp

@[simp] theorem State.evaluateWatches_frame (a : HostAddress) (v : Byte) :
    (s.evaluateWatches a v).now = s.now ∧ (s.evaluateWatches a v).pending = s.pending ∧
    (s.evaluateWatches a v).resetHeld = s.resetHeld ∧ (s.evaluateWatches a v).flushreqLow = s.flushreqLow ∧
    (s.evaluateWatches a v).straps = s.straps ∧ (s.evaluateWatches a v).part = s.part ∧
    (s.evaluateWatches a v).startup = s.startup ∧ (s.evaluateWatches a v).port = s.port ∧
    (s.evaluateWatches a v).settings = s.settings ∧ (s.evaluateWatches a v).regions = s.regions ∧
    (s.evaluateWatches a v).buffers = s.buffers ∧ (s.evaluateWatches a v).recency = s.recency ∧
    (s.evaluateWatches a v).devices = s.devices ∧ (s.evaluateWatches a v).requests = s.requests ∧
    (s.evaluateWatches a v).link = s.link ∧ (s.evaluateWatches a v).transmit = s.transmit ∧
    (s.evaluateWatches a v).stream = s.stream ∧ (s.evaluateWatches a v).watches = s.watches ∧
    (s.evaluateWatches a v).supply = s.supply ∧ (s.evaluateWatches a v).flags = s.flags ∧
    (s.evaluateWatches a v).management = s.management := by
  unfold State.evaluateWatches
  try dsimp only
  repeat' split
  all_goals simp

@[simp] theorem State.completeWatch_frame (a : HostAddress) (v : Byte) (b : Fin 16) (n : Fin 8) :
    (State.completeWatch a v b s n).now = s.now ∧ (State.completeWatch a v b s n).pending = s.pending ∧
    (State.completeWatch a v b s n).resetHeld = s.resetHeld ∧
    (State.completeWatch a v b s n).flushreqLow = s.flushreqLow ∧ (State.completeWatch a v b s n).straps = s.straps ∧
    (State.completeWatch a v b s n).part = s.part ∧ (State.completeWatch a v b s n).startup = s.startup ∧
    (State.completeWatch a v b s n).port = s.port ∧ (State.completeWatch a v b s n).settings = s.settings ∧
    (State.completeWatch a v b s n).regions = s.regions ∧ (State.completeWatch a v b s n).buffers = s.buffers ∧
    (State.completeWatch a v b s n).recency = s.recency ∧ (State.completeWatch a v b s n).devices = s.devices ∧
    (State.completeWatch a v b s n).requests = s.requests ∧ (State.completeWatch a v b s n).link = s.link ∧
    (State.completeWatch a v b s n).transmit = s.transmit ∧ (State.completeWatch a v b s n).stream = s.stream ∧
    (State.completeWatch a v b s n).supply = s.supply ∧ (State.completeWatch a v b s n).management = s.management := by
  unfold State.completeWatch
  try dsimp only
  repeat' split
  all_goals simp

@[simp] theorem State.completeWatches_frame (a : HostAddress) (v : Byte) (b : Fin 16) :
    (s.completeWatches a v b).now = s.now ∧ (s.completeWatches a v b).pending = s.pending ∧
    (s.completeWatches a v b).resetHeld = s.resetHeld ∧ (s.completeWatches a v b).flushreqLow = s.flushreqLow ∧
    (s.completeWatches a v b).straps = s.straps ∧ (s.completeWatches a v b).part = s.part ∧
    (s.completeWatches a v b).startup = s.startup ∧ (s.completeWatches a v b).port = s.port ∧
    (s.completeWatches a v b).settings = s.settings ∧ (s.completeWatches a v b).regions = s.regions ∧
    (s.completeWatches a v b).buffers = s.buffers ∧ (s.completeWatches a v b).recency = s.recency ∧
    (s.completeWatches a v b).devices = s.devices ∧ (s.completeWatches a v b).requests = s.requests ∧
    (s.completeWatches a v b).link = s.link ∧ (s.completeWatches a v b).transmit = s.transmit ∧
    (s.completeWatches a v b).stream = s.stream ∧ (s.completeWatches a v b).supply = s.supply ∧
    (s.completeWatches a v b).management = s.management := by
  unfold State.completeWatches
  refine foldl_invariant (P := fun t : State =>
      t.now = s.now ∧ t.pending = s.pending ∧ t.resetHeld = s.resetHeld ∧ t.flushreqLow = s.flushreqLow ∧
      t.straps = s.straps ∧ t.part = s.part ∧ t.startup = s.startup ∧ t.port = s.port ∧ t.settings = s.settings ∧
      t.regions = s.regions ∧ t.buffers = s.buffers ∧ t.recency = s.recency ∧ t.devices = s.devices ∧
      t.requests = s.requests ∧ t.link = s.link ∧ t.transmit = s.transmit ∧ t.stream = s.stream ∧
      t.supply = s.supply ∧ t.management = s.management) ?_ ?_
  · simp
  · intro t x h
    (try split) <;> simpa using h

@[simp] theorem State.streamWritten_frame (d : Fin 4) (a : Nat) :
    (s.streamWritten d a).now = s.now ∧ (s.streamWritten d a).pending = s.pending ∧
    (s.streamWritten d a).resetHeld = s.resetHeld ∧ (s.streamWritten d a).flushreqLow = s.flushreqLow ∧
    (s.streamWritten d a).straps = s.straps ∧ (s.streamWritten d a).part = s.part ∧
    (s.streamWritten d a).startup = s.startup ∧ (s.streamWritten d a).port = s.port ∧
    (s.streamWritten d a).settings = s.settings ∧ (s.streamWritten d a).regions = s.regions ∧
    (s.streamWritten d a).buffers = s.buffers ∧ (s.streamWritten d a).recency = s.recency ∧
    (s.streamWritten d a).queue = s.queue ∧ (s.streamWritten d a).devices = s.devices ∧
    (s.streamWritten d a).requests = s.requests ∧ (s.streamWritten d a).link = s.link ∧
    (s.streamWritten d a).transmit = s.transmit ∧ (s.streamWritten d a).watches = s.watches ∧
    (s.streamWritten d a).supply = s.supply ∧ (s.streamWritten d a).flags = s.flags ∧
    (s.streamWritten d a).management = s.management := by
  unfold State.streamWritten
  try dsimp only
  repeat' split
  all_goals simp

@[simp] theorem State.streamDiscarded_frame (d : Fin 4) (p : Nat) :
    (s.streamDiscarded d p).now = s.now ∧ (s.streamDiscarded d p).pending = s.pending ∧
    (s.streamDiscarded d p).resetHeld = s.resetHeld ∧ (s.streamDiscarded d p).flushreqLow = s.flushreqLow ∧
    (s.streamDiscarded d p).straps = s.straps ∧ (s.streamDiscarded d p).part = s.part ∧
    (s.streamDiscarded d p).startup = s.startup ∧ (s.streamDiscarded d p).port = s.port ∧
    (s.streamDiscarded d p).settings = s.settings ∧ (s.streamDiscarded d p).regions = s.regions ∧
    (s.streamDiscarded d p).buffers = s.buffers ∧ (s.streamDiscarded d p).recency = s.recency ∧
    (s.streamDiscarded d p).queue = s.queue ∧ (s.streamDiscarded d p).devices = s.devices ∧
    (s.streamDiscarded d p).requests = s.requests ∧ (s.streamDiscarded d p).link = s.link ∧
    (s.streamDiscarded d p).transmit = s.transmit ∧ (s.streamDiscarded d p).watches = s.watches ∧
    (s.streamDiscarded d p).supply = s.supply ∧ (s.streamDiscarded d p).flags = s.flags ∧
    (s.streamDiscarded d p).management = s.management := by
  unfold State.streamDiscarded
  try dsimp only
  repeat' split
  all_goals simp

@[simp] theorem State.stopBurst_frame :
    (s.stopBurst).now = s.now ∧ (s.stopBurst).pending = s.pending ∧ (s.stopBurst).resetHeld = s.resetHeld ∧
    (s.stopBurst).flushreqLow = s.flushreqLow ∧ (s.stopBurst).straps = s.straps ∧ (s.stopBurst).part = s.part ∧
    (s.stopBurst).startup = s.startup ∧ (s.stopBurst).port = s.port ∧ (s.stopBurst).settings = s.settings ∧
    (s.stopBurst).regions = s.regions ∧ (s.stopBurst).buffers = s.buffers ∧ (s.stopBurst).recency = s.recency ∧
    (s.stopBurst).queue = s.queue ∧ (s.stopBurst).devices = s.devices ∧ (s.stopBurst).link = s.link ∧
    (s.stopBurst).transmit = s.transmit ∧ (s.stopBurst).watches = s.watches ∧ (s.stopBurst).supply = s.supply ∧
    (s.stopBurst).flags = s.flags ∧ (s.stopBurst).management = s.management := by
  unfold State.stopBurst
  try dsimp only
  repeat' split
  all_goals simp

@[simp] theorem State.streamIdle_frame :
    (s.streamIdle).now = s.now ∧ (s.streamIdle).pending = s.pending ∧ (s.streamIdle).resetHeld = s.resetHeld ∧
    (s.streamIdle).flushreqLow = s.flushreqLow ∧ (s.streamIdle).straps = s.straps ∧ (s.streamIdle).part = s.part ∧
    (s.streamIdle).startup = s.startup ∧ (s.streamIdle).port = s.port ∧ (s.streamIdle).settings = s.settings ∧
    (s.streamIdle).regions = s.regions ∧ (s.streamIdle).buffers = s.buffers ∧ (s.streamIdle).recency = s.recency ∧
    (s.streamIdle).queue = s.queue ∧ (s.streamIdle).devices = s.devices ∧ (s.streamIdle).link = s.link ∧
    (s.streamIdle).transmit = s.transmit ∧ (s.streamIdle).watches = s.watches ∧ (s.streamIdle).supply = s.supply ∧
    (s.streamIdle).flags = s.flags ∧ (s.streamIdle).management = s.management := by
  unfold State.streamIdle
  try dsimp only
  repeat' split
  all_goals simp

@[simp] theorem State.deviceStep_frame (c : StreamContext) :
    (s.deviceStep c).now = s.now ∧ (s.deviceStep c).pending = s.pending ∧ (s.deviceStep c).resetHeld = s.resetHeld ∧
    (s.deviceStep c).flushreqLow = s.flushreqLow ∧ (s.deviceStep c).straps = s.straps ∧
    (s.deviceStep c).part = s.part ∧ (s.deviceStep c).startup = s.startup ∧ (s.deviceStep c).port = s.port ∧
    (s.deviceStep c).settings = s.settings ∧ (s.deviceStep c).regions = s.regions ∧
    (s.deviceStep c).buffers = s.buffers ∧ (s.deviceStep c).recency = s.recency ∧ (s.deviceStep c).queue = s.queue ∧
    (s.deviceStep c).devices = s.devices ∧ (s.deviceStep c).link = s.link ∧ (s.deviceStep c).transmit = s.transmit ∧
    (s.deviceStep c).watches = s.watches ∧ (s.deviceStep c).supply = s.supply ∧ (s.deviceStep c).flags = s.flags ∧
    (s.deviceStep c).management = s.management := by
  unfold State.deviceStep
  try dsimp only
  repeat' split
  all_goals simp

@[simp] theorem State.planRefill_frame :
    (s.planRefill).now = s.now ∧ (s.planRefill).pending = s.pending ∧ (s.planRefill).resetHeld = s.resetHeld ∧
    (s.planRefill).flushreqLow = s.flushreqLow ∧ (s.planRefill).straps = s.straps ∧ (s.planRefill).part = s.part ∧
    (s.planRefill).startup = s.startup ∧ (s.planRefill).port = s.port ∧ (s.planRefill).settings = s.settings ∧
    (s.planRefill).regions = s.regions ∧ (s.planRefill).buffers = s.buffers ∧ (s.planRefill).recency = s.recency ∧
    (s.planRefill).queue = s.queue ∧ (s.planRefill).devices = s.devices ∧ (s.planRefill).link = s.link ∧
    (s.planRefill).transmit = s.transmit ∧ (s.planRefill).watches = s.watches ∧ (s.planRefill).supply = s.supply ∧
    (s.planRefill).flags = s.flags ∧ (s.planRefill).management = s.management := by
  unfold State.planRefill
  try dsimp only
  repeat' split
  all_goals simp

@[simp] theorem State.serveStream_frame :
    (s.serveStream).now = s.now ∧ (s.serveStream).pending = s.pending ∧ (s.serveStream).resetHeld = s.resetHeld ∧
    (s.serveStream).flushreqLow = s.flushreqLow ∧ (s.serveStream).straps = s.straps ∧ (s.serveStream).part = s.part ∧
    (s.serveStream).startup = s.startup ∧ (s.serveStream).settings = s.settings ∧ (s.serveStream).regions = s.regions ∧
    (s.serveStream).buffers = s.buffers ∧ (s.serveStream).recency = s.recency ∧ (s.serveStream).queue = s.queue ∧
    (s.serveStream).devices = s.devices ∧ (s.serveStream).link = s.link ∧ (s.serveStream).transmit = s.transmit ∧
    (s.serveStream).watches = s.watches ∧ (s.serveStream).supply = s.supply ∧ (s.serveStream).flags = s.flags ∧
    (s.serveStream).management = s.management := by
  unfold State.serveStream
  try dsimp only
  repeat' split
  all_goals simp

@[simp] theorem State.resynchronise_frame (a : HostAddress) (d : Decode) :
    (s.resynchronise a d).now = s.now ∧ (s.resynchronise a d).pending = s.pending ∧
    (s.resynchronise a d).resetHeld = s.resetHeld ∧ (s.resynchronise a d).flushreqLow = s.flushreqLow ∧
    (s.resynchronise a d).straps = s.straps ∧ (s.resynchronise a d).part = s.part ∧
    (s.resynchronise a d).startup = s.startup ∧ (s.resynchronise a d).settings = s.settings ∧
    (s.resynchronise a d).regions = s.regions ∧ (s.resynchronise a d).buffers = s.buffers ∧
    (s.resynchronise a d).recency = s.recency ∧ (s.resynchronise a d).queue = s.queue ∧
    (s.resynchronise a d).devices = s.devices ∧ (s.resynchronise a d).link = s.link ∧
    (s.resynchronise a d).transmit = s.transmit ∧ (s.resynchronise a d).watches = s.watches ∧
    (s.resynchronise a d).supply = s.supply ∧ (s.resynchronise a d).flags = s.flags ∧
    (s.resynchronise a d).management = s.management := by
  unfold State.resynchronise
  try dsimp only
  repeat' split
  all_goals simp

@[simp] theorem State.demandStream_frame :
    (s.demandStream).now = s.now ∧ (s.demandStream).pending = s.pending ∧ (s.demandStream).resetHeld = s.resetHeld ∧
    (s.demandStream).flushreqLow = s.flushreqLow ∧ (s.demandStream).straps = s.straps ∧
    (s.demandStream).part = s.part ∧ (s.demandStream).startup = s.startup ∧ (s.demandStream).settings = s.settings ∧
    (s.demandStream).regions = s.regions ∧ (s.demandStream).buffers = s.buffers ∧
    (s.demandStream).recency = s.recency ∧ (s.demandStream).queue = s.queue ∧ (s.demandStream).devices = s.devices ∧
    (s.demandStream).link = s.link ∧ (s.demandStream).transmit = s.transmit ∧ (s.demandStream).watches = s.watches ∧
    (s.demandStream).supply = s.supply ∧ (s.demandStream).management = s.management := by
  unfold State.demandStream
  try dsimp only
  repeat' split
  all_goals simp

@[simp] theorem State.streamRead_frame (a : HostAddress) (d : Decode) :
    (s.streamRead a d).now = s.now ∧ (s.streamRead a d).pending = s.pending ∧
    (s.streamRead a d).resetHeld = s.resetHeld ∧ (s.streamRead a d).flushreqLow = s.flushreqLow ∧
    (s.streamRead a d).straps = s.straps ∧ (s.streamRead a d).part = s.part ∧ (s.streamRead a d).startup = s.startup ∧
    (s.streamRead a d).settings = s.settings ∧ (s.streamRead a d).regions = s.regions ∧
    (s.streamRead a d).buffers = s.buffers ∧ (s.streamRead a d).recency = s.recency ∧
    (s.streamRead a d).queue = s.queue ∧ (s.streamRead a d).devices = s.devices ∧ (s.streamRead a d).link = s.link ∧
    (s.streamRead a d).transmit = s.transmit ∧ (s.streamRead a d).watches = s.watches ∧
    (s.streamRead a d).supply = s.supply ∧ (s.streamRead a d).management = s.management := by
  unfold State.streamRead
  try dsimp only
  repeat' split
  all_goals simp

@[simp] theorem State.burstComplete_frame (data : Vector Byte 16) :
    (s.burstComplete data).now = s.now ∧ (s.burstComplete data).pending = s.pending ∧
    (s.burstComplete data).resetHeld = s.resetHeld ∧ (s.burstComplete data).flushreqLow = s.flushreqLow ∧
    (s.burstComplete data).straps = s.straps ∧ (s.burstComplete data).part = s.part ∧
    (s.burstComplete data).startup = s.startup ∧ (s.burstComplete data).settings = s.settings ∧
    (s.burstComplete data).regions = s.regions ∧ (s.burstComplete data).buffers = s.buffers ∧
    (s.burstComplete data).recency = s.recency ∧ (s.burstComplete data).queue = s.queue ∧
    (s.burstComplete data).devices = s.devices ∧ (s.burstComplete data).link = s.link ∧
    (s.burstComplete data).transmit = s.transmit ∧ (s.burstComplete data).watches = s.watches ∧
    (s.burstComplete data).supply = s.supply ∧ (s.burstComplete data).flags = s.flags ∧
    (s.burstComplete data).management = s.management := by
  unfold State.burstComplete
  try dsimp only
  repeat' split
  all_goals simp

@[simp] theorem State.burstFailed_frame (x : Stall) :
    (s.burstFailed x).now = s.now ∧ (s.burstFailed x).pending = s.pending ∧ (s.burstFailed x).resetHeld = s.resetHeld ∧
    (s.burstFailed x).flushreqLow = s.flushreqLow ∧ (s.burstFailed x).straps = s.straps ∧
    (s.burstFailed x).part = s.part ∧ (s.burstFailed x).startup = s.startup ∧ (s.burstFailed x).settings = s.settings ∧
    (s.burstFailed x).regions = s.regions ∧ (s.burstFailed x).buffers = s.buffers ∧
    (s.burstFailed x).recency = s.recency ∧ (s.burstFailed x).queue = s.queue ∧ (s.burstFailed x).devices = s.devices ∧
    (s.burstFailed x).link = s.link ∧ (s.burstFailed x).transmit = s.transmit ∧ (s.burstFailed x).watches = s.watches ∧
    (s.burstFailed x).supply = s.supply ∧ (s.burstFailed x).management = s.management := by
  unfold State.burstFailed
  try dsimp only
  repeat' split
  all_goals simp

@[simp] theorem State.freeBuffer_frame (b : Fin 16) :
    (s.freeBuffer b).now = s.now ∧ (s.freeBuffer b).pending = s.pending ∧ (s.freeBuffer b).resetHeld = s.resetHeld ∧
    (s.freeBuffer b).flushreqLow = s.flushreqLow ∧ (s.freeBuffer b).straps = s.straps ∧
    (s.freeBuffer b).part = s.part ∧ (s.freeBuffer b).startup = s.startup ∧ (s.freeBuffer b).port = s.port ∧
    (s.freeBuffer b).settings = s.settings ∧ (s.freeBuffer b).regions = s.regions ∧
    (s.freeBuffer b).devices = s.devices ∧ (s.freeBuffer b).transmit = s.transmit ∧
    (s.freeBuffer b).stream = s.stream ∧ (s.freeBuffer b).watches = s.watches ∧ (s.freeBuffer b).supply = s.supply ∧
    (s.freeBuffer b).management = s.management := by
  unfold State.freeBuffer
  try dsimp only
  repeat' split
  all_goals simp

@[simp] theorem State.freeIfUnknown_frame (b : Fin 16) :
    (s.freeIfUnknown b).now = s.now ∧ (s.freeIfUnknown b).pending = s.pending ∧
    (s.freeIfUnknown b).resetHeld = s.resetHeld ∧ (s.freeIfUnknown b).flushreqLow = s.flushreqLow ∧
    (s.freeIfUnknown b).straps = s.straps ∧ (s.freeIfUnknown b).part = s.part ∧
    (s.freeIfUnknown b).startup = s.startup ∧ (s.freeIfUnknown b).port = s.port ∧
    (s.freeIfUnknown b).settings = s.settings ∧ (s.freeIfUnknown b).regions = s.regions ∧
    (s.freeIfUnknown b).devices = s.devices ∧ (s.freeIfUnknown b).transmit = s.transmit ∧
    (s.freeIfUnknown b).stream = s.stream ∧ (s.freeIfUnknown b).watches = s.watches ∧
    (s.freeIfUnknown b).supply = s.supply ∧ (s.freeIfUnknown b).management = s.management := by
  unfold State.freeIfUnknown
  try dsimp only
  repeat' split
  all_goals simp

@[simp] theorem State.allocate_frame (b : Fin 16) (t : Tag) :
    (s.allocate b t).now = s.now ∧ (s.allocate b t).pending = s.pending ∧ (s.allocate b t).resetHeld = s.resetHeld ∧
    (s.allocate b t).flushreqLow = s.flushreqLow ∧ (s.allocate b t).straps = s.straps ∧
    (s.allocate b t).part = s.part ∧ (s.allocate b t).startup = s.startup ∧ (s.allocate b t).port = s.port ∧
    (s.allocate b t).settings = s.settings ∧ (s.allocate b t).regions = s.regions ∧
    (s.allocate b t).devices = s.devices ∧ (s.allocate b t).transmit = s.transmit ∧
    (s.allocate b t).stream = s.stream ∧ (s.allocate b t).watches = s.watches ∧ (s.allocate b t).supply = s.supply ∧
    (s.allocate b t).management = s.management := by
  unfold State.allocate
  try dsimp only
  repeat' split
  all_goals simp

@[simp] theorem State.waitForBuffer_frame :
    (s.waitForBuffer).now = s.now ∧ (s.waitForBuffer).pending = s.pending ∧ (s.waitForBuffer).resetHeld = s.resetHeld ∧
    (s.waitForBuffer).flushreqLow = s.flushreqLow ∧ (s.waitForBuffer).straps = s.straps ∧
    (s.waitForBuffer).part = s.part ∧ (s.waitForBuffer).startup = s.startup ∧ (s.waitForBuffer).settings = s.settings ∧
    (s.waitForBuffer).regions = s.regions ∧ (s.waitForBuffer).buffers = s.buffers ∧
    (s.waitForBuffer).recency = s.recency ∧ (s.waitForBuffer).queue = s.queue ∧ (s.waitForBuffer).devices = s.devices ∧
    (s.waitForBuffer).requests = s.requests ∧ (s.waitForBuffer).link = s.link ∧
    (s.waitForBuffer).transmit = s.transmit ∧ (s.waitForBuffer).stream = s.stream ∧
    (s.waitForBuffer).watches = s.watches ∧ (s.waitForBuffer).supply = s.supply ∧
    (s.waitForBuffer).management = s.management := by
  unfold State.waitForBuffer
  try dsimp only
  repeat' split
  all_goals simp

@[simp] theorem State.readResident_frame (b : Fin 16) (d : Decode) :
    (s.readResident b d).now = s.now ∧ (s.readResident b d).pending = s.pending ∧
    (s.readResident b d).resetHeld = s.resetHeld ∧ (s.readResident b d).flushreqLow = s.flushreqLow ∧
    (s.readResident b d).straps = s.straps ∧ (s.readResident b d).part = s.part ∧
    (s.readResident b d).startup = s.startup ∧ (s.readResident b d).settings = s.settings ∧
    (s.readResident b d).regions = s.regions ∧ (s.readResident b d).queue = s.queue ∧
    (s.readResident b d).devices = s.devices ∧ (s.readResident b d).link = s.link ∧
    (s.readResident b d).transmit = s.transmit ∧ (s.readResident b d).stream = s.stream ∧
    (s.readResident b d).watches = s.watches ∧ (s.readResident b d).supply = s.supply ∧
    (s.readResident b d).management = s.management := by
  unfold State.readResident
  try dsimp only
  repeat' split
  all_goals simp

@[simp] theorem State.readAbsent_frame (d : Decode) :
    (s.readAbsent d).now = s.now ∧ (s.readAbsent d).pending = s.pending ∧ (s.readAbsent d).resetHeld = s.resetHeld ∧
    (s.readAbsent d).flushreqLow = s.flushreqLow ∧ (s.readAbsent d).straps = s.straps ∧
    (s.readAbsent d).part = s.part ∧ (s.readAbsent d).startup = s.startup ∧ (s.readAbsent d).settings = s.settings ∧
    (s.readAbsent d).regions = s.regions ∧ (s.readAbsent d).devices = s.devices ∧
    (s.readAbsent d).transmit = s.transmit ∧ (s.readAbsent d).stream = s.stream ∧
    (s.readAbsent d).watches = s.watches ∧ (s.readAbsent d).supply = s.supply ∧
    (s.readAbsent d).management = s.management := by
  unfold State.readAbsent
  try dsimp only
  repeat' split
  all_goals simp

@[simp] theorem State.resolveRead_frame (d : Decode) :
    (s.resolveRead d).now = s.now ∧ (s.resolveRead d).pending = s.pending ∧ (s.resolveRead d).resetHeld = s.resetHeld ∧
    (s.resolveRead d).flushreqLow = s.flushreqLow ∧ (s.resolveRead d).straps = s.straps ∧
    (s.resolveRead d).part = s.part ∧ (s.resolveRead d).startup = s.startup ∧ (s.resolveRead d).settings = s.settings ∧
    (s.resolveRead d).regions = s.regions ∧ (s.resolveRead d).devices = s.devices ∧
    (s.resolveRead d).transmit = s.transmit ∧ (s.resolveRead d).stream = s.stream ∧
    (s.resolveRead d).watches = s.watches ∧ (s.resolveRead d).supply = s.supply ∧
    (s.resolveRead d).management = s.management := by
  unfold State.resolveRead
  try dsimp only
  repeat' split
  all_goals simp

@[simp] theorem State.answerRead_frame (b : Fin 16) (d : Decode) :
    (s.answerRead b d).now = s.now ∧ (s.answerRead b d).pending = s.pending ∧
    (s.answerRead b d).resetHeld = s.resetHeld ∧ (s.answerRead b d).flushreqLow = s.flushreqLow ∧
    (s.answerRead b d).straps = s.straps ∧ (s.answerRead b d).part = s.part ∧ (s.answerRead b d).startup = s.startup ∧
    (s.answerRead b d).settings = s.settings ∧ (s.answerRead b d).regions = s.regions ∧
    (s.answerRead b d).buffers = s.buffers ∧ (s.answerRead b d).queue = s.queue ∧
    (s.answerRead b d).devices = s.devices ∧ (s.answerRead b d).requests = s.requests ∧
    (s.answerRead b d).link = s.link ∧ (s.answerRead b d).transmit = s.transmit ∧
    (s.answerRead b d).stream = s.stream ∧ (s.answerRead b d).watches = s.watches ∧
    (s.answerRead b d).supply = s.supply ∧ (s.answerRead b d).flags = s.flags ∧
    (s.answerRead b d).management = s.management := by
  unfold State.answerRead
  try dsimp only
  repeat' split
  all_goals simp

@[simp] theorem State.placeByte_frame (b : Fin 16) (d : Decode) (v : Byte) :
    (s.placeByte b d v).now = s.now ∧ (s.placeByte b d v).pending = s.pending ∧
    (s.placeByte b d v).resetHeld = s.resetHeld ∧ (s.placeByte b d v).flushreqLow = s.flushreqLow ∧
    (s.placeByte b d v).straps = s.straps ∧ (s.placeByte b d v).part = s.part ∧
    (s.placeByte b d v).startup = s.startup ∧ (s.placeByte b d v).port = s.port ∧
    (s.placeByte b d v).settings = s.settings ∧ (s.placeByte b d v).regions = s.regions ∧
    (s.placeByte b d v).devices = s.devices ∧ (s.placeByte b d v).requests = s.requests ∧
    (s.placeByte b d v).link = s.link ∧ (s.placeByte b d v).transmit = s.transmit ∧
    (s.placeByte b d v).stream = s.stream ∧ (s.placeByte b d v).watches = s.watches ∧
    (s.placeByte b d v).supply = s.supply ∧ (s.placeByte b d v).flags = s.flags ∧
    (s.placeByte b d v).management = s.management := by
  unfold State.placeByte
  try dsimp only
  repeat' split
  all_goals simp

@[simp] theorem State.finishWrite_frame (b : Fin 16) (a : HostAddress) (d : Decode) (v : Byte) :
    (s.finishWrite b a d v).now = s.now ∧ (s.finishWrite b a d v).pending = s.pending ∧
    (s.finishWrite b a d v).resetHeld = s.resetHeld ∧ (s.finishWrite b a d v).flushreqLow = s.flushreqLow ∧
    (s.finishWrite b a d v).straps = s.straps ∧ (s.finishWrite b a d v).part = s.part ∧
    (s.finishWrite b a d v).startup = s.startup ∧ (s.finishWrite b a d v).settings = s.settings ∧
    (s.finishWrite b a d v).regions = s.regions ∧ (s.finishWrite b a d v).buffers = s.buffers ∧
    (s.finishWrite b a d v).recency = s.recency ∧ (s.finishWrite b a d v).devices = s.devices ∧
    (s.finishWrite b a d v).requests = s.requests ∧ (s.finishWrite b a d v).link = s.link ∧
    (s.finishWrite b a d v).transmit = s.transmit ∧ (s.finishWrite b a d v).supply = s.supply ∧
    (s.finishWrite b a d v).management = s.management := by
  unfold State.finishWrite
  try dsimp only
  repeat' split
  all_goals simp

@[simp] theorem State.resolveWrite_frame (a : HostAddress) (d : Decode) (v : Byte) :
    (s.resolveWrite a d v).now = s.now ∧ (s.resolveWrite a d v).pending = s.pending ∧
    (s.resolveWrite a d v).resetHeld = s.resetHeld ∧ (s.resolveWrite a d v).flushreqLow = s.flushreqLow ∧
    (s.resolveWrite a d v).straps = s.straps ∧ (s.resolveWrite a d v).part = s.part ∧
    (s.resolveWrite a d v).startup = s.startup ∧ (s.resolveWrite a d v).settings = s.settings ∧
    (s.resolveWrite a d v).regions = s.regions ∧ (s.resolveWrite a d v).devices = s.devices ∧
    (s.resolveWrite a d v).transmit = s.transmit ∧ (s.resolveWrite a d v).supply = s.supply ∧
    (s.resolveWrite a d v).management = s.management := by
  unfold State.resolveWrite
  try dsimp only
  repeat' split
  all_goals simp

@[simp] theorem State.checkedWrite_frame (a : HostAddress) (d : Decode) (v : Byte) :
    (s.checkedWrite a d v).now = s.now ∧ (s.checkedWrite a d v).pending = s.pending ∧
    (s.checkedWrite a d v).resetHeld = s.resetHeld ∧ (s.checkedWrite a d v).flushreqLow = s.flushreqLow ∧
    (s.checkedWrite a d v).straps = s.straps ∧ (s.checkedWrite a d v).part = s.part ∧
    (s.checkedWrite a d v).startup = s.startup ∧ (s.checkedWrite a d v).settings = s.settings ∧
    (s.checkedWrite a d v).regions = s.regions ∧ (s.checkedWrite a d v).devices = s.devices ∧
    (s.checkedWrite a d v).transmit = s.transmit ∧ (s.checkedWrite a d v).supply = s.supply ∧
    (s.checkedWrite a d v).management = s.management := by
  unfold State.checkedWrite
  try dsimp only
  repeat' split
  all_goals simp

@[simp] theorem State.writePath_frame (a : HostAddress) (d : Decode) (v : Byte) :
    (s.writePath a d v).now = s.now ∧ (s.writePath a d v).pending = s.pending ∧
    (s.writePath a d v).resetHeld = s.resetHeld ∧ (s.writePath a d v).flushreqLow = s.flushreqLow ∧
    (s.writePath a d v).straps = s.straps ∧ (s.writePath a d v).part = s.part ∧
    (s.writePath a d v).startup = s.startup ∧ (s.writePath a d v).settings = s.settings ∧
    (s.writePath a d v).regions = s.regions ∧ (s.writePath a d v).devices = s.devices ∧
    (s.writePath a d v).transmit = s.transmit ∧ (s.writePath a d v).supply = s.supply ∧
    (s.writePath a d v).management = s.management := by
  unfold State.writePath
  try dsimp only
  repeat' split
  all_goals simp

@[simp] theorem State.ownerHears_frame :
    (s.ownerHears).now = s.now ∧ (s.ownerHears).pending = s.pending ∧ (s.ownerHears).resetHeld = s.resetHeld ∧
    (s.ownerHears).flushreqLow = s.flushreqLow ∧ (s.ownerHears).straps = s.straps ∧ (s.ownerHears).part = s.part ∧
    (s.ownerHears).startup = s.startup ∧ (s.ownerHears).port = s.port ∧ (s.ownerHears).settings = s.settings ∧
    (s.ownerHears).regions = s.regions ∧ (s.ownerHears).devices = s.devices ∧ (s.ownerHears).transmit = s.transmit ∧
    (s.ownerHears).stream = s.stream ∧ (s.ownerHears).watches = s.watches ∧ (s.ownerHears).supply = s.supply ∧
    (s.ownerHears).management = s.management := by
  unfold State.ownerHears
  try dsimp only
  repeat' split
  all_goals simp

@[simp] theorem State.portRefuses_frame (c : Cause) :
    (s.portRefuses c).now = s.now ∧ (s.portRefuses c).pending = s.pending ∧ (s.portRefuses c).resetHeld = s.resetHeld ∧
    (s.portRefuses c).flushreqLow = s.flushreqLow ∧ (s.portRefuses c).straps = s.straps ∧
    (s.portRefuses c).part = s.part ∧ (s.portRefuses c).startup = s.startup ∧ (s.portRefuses c).settings = s.settings ∧
    (s.portRefuses c).regions = s.regions ∧ (s.portRefuses c).devices = s.devices ∧
    (s.portRefuses c).transmit = s.transmit ∧ (s.portRefuses c).stream = s.stream ∧
    (s.portRefuses c).watches = s.watches ∧ (s.portRefuses c).supply = s.supply ∧
    (s.portRefuses c).management = s.management := by
  unfold State.portRefuses
  try dsimp only
  repeat' split
  all_goals simp

@[simp] theorem State.dropClean_frame :
    (s.dropClean).now = s.now ∧ (s.dropClean).pending = s.pending ∧ (s.dropClean).resetHeld = s.resetHeld ∧
    (s.dropClean).flushreqLow = s.flushreqLow ∧ (s.dropClean).straps = s.straps ∧ (s.dropClean).part = s.part ∧
    (s.dropClean).startup = s.startup ∧ (s.dropClean).port = s.port ∧ (s.dropClean).settings = s.settings ∧
    (s.dropClean).regions = s.regions ∧ (s.dropClean).devices = s.devices ∧ (s.dropClean).transmit = s.transmit ∧
    (s.dropClean).stream = s.stream ∧ (s.dropClean).watches = s.watches ∧ (s.dropClean).supply = s.supply ∧
    (s.dropClean).management = s.management := by
  unfold State.dropClean
  refine foldl_invariant (P := fun t : State =>
      t.now = s.now ∧ t.pending = s.pending ∧ t.resetHeld = s.resetHeld ∧ t.flushreqLow = s.flushreqLow ∧
      t.straps = s.straps ∧ t.part = s.part ∧ t.startup = s.startup ∧ t.port = s.port ∧ t.settings = s.settings ∧
      t.regions = s.regions ∧ t.devices = s.devices ∧ t.transmit = s.transmit ∧ t.stream = s.stream ∧
      t.watches = s.watches ∧ t.supply = s.supply ∧ t.management = s.management) ?_ ?_
  · simp
  · intro t x h
    (try split) <;> simpa using h

@[simp] theorem State.flushRequest_frame :
    (s.flushRequest).now = s.now ∧ (s.flushRequest).pending = s.pending ∧ (s.flushRequest).resetHeld = s.resetHeld ∧
    (s.flushRequest).flushreqLow = s.flushreqLow ∧ (s.flushRequest).straps = s.straps ∧
    (s.flushRequest).part = s.part ∧ (s.flushRequest).startup = s.startup ∧ (s.flushRequest).port = s.port ∧
    (s.flushRequest).settings = s.settings ∧ (s.flushRequest).regions = s.regions ∧
    (s.flushRequest).buffers = s.buffers ∧ (s.flushRequest).recency = s.recency ∧
    (s.flushRequest).devices = s.devices ∧ (s.flushRequest).requests = s.requests ∧ (s.flushRequest).link = s.link ∧
    (s.flushRequest).transmit = s.transmit ∧ (s.flushRequest).stream = s.stream ∧
    (s.flushRequest).watches = s.watches ∧ (s.flushRequest).supply = s.supply ∧
    (s.flushRequest).management = s.management := by
  unfold State.flushRequest
  try dsimp only
  repeat' split
  all_goals simp

@[simp] theorem State.completeFlush_frame :
    (s.completeFlush).now = s.now ∧ (s.completeFlush).pending = s.pending ∧ (s.completeFlush).resetHeld = s.resetHeld ∧
    (s.completeFlush).flushreqLow = s.flushreqLow ∧ (s.completeFlush).straps = s.straps ∧
    (s.completeFlush).part = s.part ∧ (s.completeFlush).startup = s.startup ∧ (s.completeFlush).port = s.port ∧
    (s.completeFlush).settings = s.settings ∧ (s.completeFlush).regions = s.regions ∧
    (s.completeFlush).buffers = s.buffers ∧ (s.completeFlush).recency = s.recency ∧
    (s.completeFlush).devices = s.devices ∧ (s.completeFlush).requests = s.requests ∧ (s.completeFlush).link = s.link ∧
    (s.completeFlush).transmit = s.transmit ∧ (s.completeFlush).stream = s.stream ∧
    (s.completeFlush).watches = s.watches ∧ (s.completeFlush).supply = s.supply ∧
    (s.completeFlush).management = s.management := by
  unfold State.completeFlush
  try dsimp only
  repeat' split
  all_goals simp

@[simp] theorem State.withdrawCommit_frame (b : Fin 16) :
    (s.withdrawCommit b).now = s.now ∧ (s.withdrawCommit b).pending = s.pending ∧
    (s.withdrawCommit b).resetHeld = s.resetHeld ∧ (s.withdrawCommit b).flushreqLow = s.flushreqLow ∧
    (s.withdrawCommit b).straps = s.straps ∧ (s.withdrawCommit b).part = s.part ∧
    (s.withdrawCommit b).startup = s.startup ∧ (s.withdrawCommit b).port = s.port ∧
    (s.withdrawCommit b).settings = s.settings ∧ (s.withdrawCommit b).regions = s.regions ∧
    (s.withdrawCommit b).buffers = s.buffers ∧ (s.withdrawCommit b).recency = s.recency ∧
    (s.withdrawCommit b).queue = s.queue ∧ (s.withdrawCommit b).devices = s.devices ∧
    (s.withdrawCommit b).link = s.link ∧ (s.withdrawCommit b).stream = s.stream ∧
    (s.withdrawCommit b).watches = s.watches ∧ (s.withdrawCommit b).supply = s.supply ∧
    (s.withdrawCommit b).flags = s.flags ∧ (s.withdrawCommit b).management = s.management := by
  unfold State.withdrawCommit
  try dsimp only
  repeat' split
  all_goals simp

@[simp] theorem State.endDirty_frame (b : Fin 16) :
    (s.endDirty b).now = s.now ∧ (s.endDirty b).pending = s.pending ∧ (s.endDirty b).resetHeld = s.resetHeld ∧
    (s.endDirty b).flushreqLow = s.flushreqLow ∧ (s.endDirty b).straps = s.straps ∧ (s.endDirty b).part = s.part ∧
    (s.endDirty b).startup = s.startup ∧ (s.endDirty b).port = s.port ∧ (s.endDirty b).settings = s.settings ∧
    (s.endDirty b).regions = s.regions ∧ (s.endDirty b).recency = s.recency ∧ (s.endDirty b).queue = s.queue ∧
    (s.endDirty b).devices = s.devices ∧ (s.endDirty b).link = s.link ∧ (s.endDirty b).stream = s.stream ∧
    (s.endDirty b).watches = s.watches ∧ (s.endDirty b).supply = s.supply ∧ (s.endDirty b).flags = s.flags ∧
    (s.endDirty b).management = s.management := by
  unfold State.endDirty
  try dsimp only
  repeat' split
  all_goals simp

@[simp] theorem State.becomeFailed_frame (b : Fin 16) :
    (s.becomeFailed b).now = s.now ∧ (s.becomeFailed b).pending = s.pending ∧
    (s.becomeFailed b).resetHeld = s.resetHeld ∧ (s.becomeFailed b).flushreqLow = s.flushreqLow ∧
    (s.becomeFailed b).straps = s.straps ∧ (s.becomeFailed b).part = s.part ∧ (s.becomeFailed b).startup = s.startup ∧
    (s.becomeFailed b).port = s.port ∧ (s.becomeFailed b).settings = s.settings ∧
    (s.becomeFailed b).regions = s.regions ∧ (s.becomeFailed b).recency = s.recency ∧
    (s.becomeFailed b).queue = s.queue ∧ (s.becomeFailed b).devices = s.devices ∧ (s.becomeFailed b).link = s.link ∧
    (s.becomeFailed b).stream = s.stream ∧ (s.becomeFailed b).watches = s.watches ∧
    (s.becomeFailed b).supply = s.supply ∧ (s.becomeFailed b).management = s.management := by
  unfold State.becomeFailed
  try dsimp only
  repeat' split
  all_goals simp

@[simp] theorem State.stopCommit_frame (b : Fin 16) :
    (s.stopCommit b).now = s.now ∧ (s.stopCommit b).pending = s.pending ∧ (s.stopCommit b).resetHeld = s.resetHeld ∧
    (s.stopCommit b).flushreqLow = s.flushreqLow ∧ (s.stopCommit b).straps = s.straps ∧
    (s.stopCommit b).part = s.part ∧ (s.stopCommit b).startup = s.startup ∧ (s.stopCommit b).port = s.port ∧
    (s.stopCommit b).settings = s.settings ∧ (s.stopCommit b).regions = s.regions ∧
    (s.stopCommit b).recency = s.recency ∧ (s.stopCommit b).queue = s.queue ∧ (s.stopCommit b).devices = s.devices ∧
    (s.stopCommit b).link = s.link ∧ (s.stopCommit b).stream = s.stream ∧ (s.stopCommit b).watches = s.watches ∧
    (s.stopCommit b).supply = s.supply ∧ (s.stopCommit b).flags = s.flags ∧ (s.stopCommit b).management = s.management := by
  unfold State.stopCommit
  try dsimp only
  repeat' split
  all_goals simp

@[simp] theorem State.enterFill_frame (b : Fin 16) :
    (s.enterFill b).now = s.now ∧ (s.enterFill b).pending = s.pending ∧ (s.enterFill b).resetHeld = s.resetHeld ∧
    (s.enterFill b).flushreqLow = s.flushreqLow ∧ (s.enterFill b).straps = s.straps ∧ (s.enterFill b).part = s.part ∧
    (s.enterFill b).startup = s.startup ∧ (s.enterFill b).port = s.port ∧ (s.enterFill b).settings = s.settings ∧
    (s.enterFill b).regions = s.regions ∧ (s.enterFill b).recency = s.recency ∧ (s.enterFill b).queue = s.queue ∧
    (s.enterFill b).devices = s.devices ∧ (s.enterFill b).link = s.link ∧ (s.enterFill b).transmit = s.transmit ∧
    (s.enterFill b).stream = s.stream ∧ (s.enterFill b).watches = s.watches ∧ (s.enterFill b).supply = s.supply ∧
    (s.enterFill b).flags = s.flags ∧ (s.enterFill b).management = s.management := by
  unfold State.enterFill
  try dsimp only
  repeat' split
  all_goals simp

@[simp] theorem State.startSend_frame (b : Fin 16) :
    (s.startSend b).now = s.now ∧ (s.startSend b).pending = s.pending ∧ (s.startSend b).resetHeld = s.resetHeld ∧
    (s.startSend b).flushreqLow = s.flushreqLow ∧ (s.startSend b).straps = s.straps ∧ (s.startSend b).part = s.part ∧
    (s.startSend b).startup = s.startup ∧ (s.startSend b).port = s.port ∧ (s.startSend b).settings = s.settings ∧
    (s.startSend b).regions = s.regions ∧ (s.startSend b).recency = s.recency ∧ (s.startSend b).queue = s.queue ∧
    (s.startSend b).devices = s.devices ∧ (s.startSend b).link = s.link ∧ (s.startSend b).stream = s.stream ∧
    (s.startSend b).watches = s.watches ∧ (s.startSend b).supply = s.supply ∧ (s.startSend b).flags = s.flags ∧
    (s.startSend b).management = s.management := by
  unfold State.startSend
  try dsimp only
  repeat' split
  all_goals simp

@[simp] theorem State.enterSend_frame (b : Fin 16) :
    (s.enterSend b).now = s.now ∧ (s.enterSend b).pending = s.pending ∧ (s.enterSend b).resetHeld = s.resetHeld ∧
    (s.enterSend b).flushreqLow = s.flushreqLow ∧ (s.enterSend b).straps = s.straps ∧ (s.enterSend b).part = s.part ∧
    (s.enterSend b).startup = s.startup ∧ (s.enterSend b).port = s.port ∧ (s.enterSend b).settings = s.settings ∧
    (s.enterSend b).regions = s.regions ∧ (s.enterSend b).recency = s.recency ∧ (s.enterSend b).queue = s.queue ∧
    (s.enterSend b).devices = s.devices ∧ (s.enterSend b).link = s.link ∧ (s.enterSend b).stream = s.stream ∧
    (s.enterSend b).watches = s.watches ∧ (s.enterSend b).flags = s.flags ∧ (s.enterSend b).management = s.management := by
  unfold State.enterSend
  try dsimp only
  repeat' split
  all_goals simp

@[simp] theorem State.startChoice_frame (b : Fin 16) :
    (s.startChoice b).now = s.now ∧ (s.startChoice b).pending = s.pending ∧ (s.startChoice b).resetHeld = s.resetHeld ∧
    (s.startChoice b).flushreqLow = s.flushreqLow ∧ (s.startChoice b).straps = s.straps ∧
    (s.startChoice b).part = s.part ∧ (s.startChoice b).startup = s.startup ∧ (s.startChoice b).port = s.port ∧
    (s.startChoice b).settings = s.settings ∧ (s.startChoice b).regions = s.regions ∧
    (s.startChoice b).recency = s.recency ∧ (s.startChoice b).queue = s.queue ∧ (s.startChoice b).devices = s.devices ∧
    (s.startChoice b).link = s.link ∧ (s.startChoice b).stream = s.stream ∧ (s.startChoice b).watches = s.watches ∧
    (s.startChoice b).flags = s.flags ∧ (s.startChoice b).management = s.management := by
  unfold State.startChoice
  try dsimp only
  repeat' split
  all_goals simp

@[simp] theorem State.startCommit_frame (b : Fin 16) :
    (s.startCommit b).now = s.now ∧ (s.startCommit b).pending = s.pending ∧ (s.startCommit b).resetHeld = s.resetHeld ∧
    (s.startCommit b).flushreqLow = s.flushreqLow ∧ (s.startCommit b).straps = s.straps ∧
    (s.startCommit b).part = s.part ∧ (s.startCommit b).startup = s.startup ∧ (s.startCommit b).port = s.port ∧
    (s.startCommit b).settings = s.settings ∧ (s.startCommit b).regions = s.regions ∧
    (s.startCommit b).recency = s.recency ∧ (s.startCommit b).queue = s.queue ∧ (s.startCommit b).devices = s.devices ∧
    (s.startCommit b).link = s.link ∧ (s.startCommit b).stream = s.stream ∧ (s.startCommit b).watches = s.watches ∧
    (s.startCommit b).flags = s.flags ∧ (s.startCommit b).management = s.management := by
  unfold State.startCommit
  try dsimp only
  repeat' split
  all_goals simp

@[simp] theorem State.endWell_frame (b : Fin 16) :
    (s.endWell b).now = s.now ∧ (s.endWell b).pending = s.pending ∧ (s.endWell b).resetHeld = s.resetHeld ∧
    (s.endWell b).flushreqLow = s.flushreqLow ∧ (s.endWell b).straps = s.straps ∧ (s.endWell b).part = s.part ∧
    (s.endWell b).startup = s.startup ∧ (s.endWell b).port = s.port ∧ (s.endWell b).settings = s.settings ∧
    (s.endWell b).regions = s.regions ∧ (s.endWell b).recency = s.recency ∧ (s.endWell b).devices = s.devices ∧
    (s.endWell b).link = s.link ∧ (s.endWell b).stream = s.stream ∧ (s.endWell b).watches = s.watches ∧
    (s.endWell b).supply = s.supply ∧ (s.endWell b).management = s.management := by
  unfold State.endWell
  try dsimp only
  repeat' split
  all_goals simp

@[simp] theorem State.fillFailed_frame (b : Fin 16) :
    (s.fillFailed b).now = s.now ∧ (s.fillFailed b).pending = s.pending ∧ (s.fillFailed b).resetHeld = s.resetHeld ∧
    (s.fillFailed b).flushreqLow = s.flushreqLow ∧ (s.fillFailed b).straps = s.straps ∧
    (s.fillFailed b).part = s.part ∧ (s.fillFailed b).startup = s.startup ∧ (s.fillFailed b).port = s.port ∧
    (s.fillFailed b).settings = s.settings ∧ (s.fillFailed b).regions = s.regions ∧
    (s.fillFailed b).recency = s.recency ∧ (s.fillFailed b).queue = s.queue ∧ (s.fillFailed b).devices = s.devices ∧
    (s.fillFailed b).link = s.link ∧ (s.fillFailed b).stream = s.stream ∧ (s.fillFailed b).watches = s.watches ∧
    (s.fillFailed b).supply = s.supply ∧ (s.fillFailed b).management = s.management := by
  unfold State.fillFailed State.afterFailure
  dsimp only
  repeat' split
  all_goals simp

@[simp] theorem State.sendFailed_frame (b : Fin 16) :
    (s.sendFailed b).now = s.now ∧ (s.sendFailed b).pending = s.pending ∧ (s.sendFailed b).resetHeld = s.resetHeld ∧
    (s.sendFailed b).flushreqLow = s.flushreqLow ∧ (s.sendFailed b).straps = s.straps ∧
    (s.sendFailed b).part = s.part ∧ (s.sendFailed b).startup = s.startup ∧ (s.sendFailed b).port = s.port ∧
    (s.sendFailed b).settings = s.settings ∧ (s.sendFailed b).regions = s.regions ∧
    (s.sendFailed b).recency = s.recency ∧ (s.sendFailed b).queue = s.queue ∧ (s.sendFailed b).devices = s.devices ∧
    (s.sendFailed b).link = s.link ∧ (s.sendFailed b).stream = s.stream ∧ (s.sendFailed b).watches = s.watches ∧
    (s.sendFailed b).management = s.management := by
  unfold State.sendFailed State.afterFailure
  dsimp only
  repeat' split
  all_goals simp

@[simp] theorem State.checkFailed_frame (b : Fin 16) :
    (s.checkFailed b).now = s.now ∧ (s.checkFailed b).pending = s.pending ∧ (s.checkFailed b).resetHeld = s.resetHeld ∧
    (s.checkFailed b).flushreqLow = s.flushreqLow ∧ (s.checkFailed b).straps = s.straps ∧
    (s.checkFailed b).part = s.part ∧ (s.checkFailed b).startup = s.startup ∧ (s.checkFailed b).port = s.port ∧
    (s.checkFailed b).settings = s.settings ∧ (s.checkFailed b).regions = s.regions ∧
    (s.checkFailed b).recency = s.recency ∧ (s.checkFailed b).queue = s.queue ∧ (s.checkFailed b).devices = s.devices ∧
    (s.checkFailed b).link = s.link ∧ (s.checkFailed b).stream = s.stream ∧ (s.checkFailed b).watches = s.watches ∧
    (s.checkFailed b).management = s.management := by
  unfold State.checkFailed State.afterFailure
  dsimp only
  repeat' split
  all_goals simp

@[simp] theorem State.enterCheck_frame (b : Fin 16) :
    (s.enterCheck b).now = s.now ∧ (s.enterCheck b).pending = s.pending ∧ (s.enterCheck b).resetHeld = s.resetHeld ∧
    (s.enterCheck b).flushreqLow = s.flushreqLow ∧ (s.enterCheck b).straps = s.straps ∧
    (s.enterCheck b).part = s.part ∧ (s.enterCheck b).startup = s.startup ∧ (s.enterCheck b).port = s.port ∧
    (s.enterCheck b).settings = s.settings ∧ (s.enterCheck b).regions = s.regions ∧
    (s.enterCheck b).recency = s.recency ∧ (s.enterCheck b).queue = s.queue ∧ (s.enterCheck b).devices = s.devices ∧
    (s.enterCheck b).link = s.link ∧ (s.enterCheck b).transmit = s.transmit ∧ (s.enterCheck b).stream = s.stream ∧
    (s.enterCheck b).watches = s.watches ∧ (s.enterCheck b).supply = s.supply ∧ (s.enterCheck b).flags = s.flags ∧
    (s.enterCheck b).management = s.management := by
  unfold State.enterCheck
  try dsimp only
  repeat' split
  all_goals simp

@[simp] theorem State.endBusy_frame (b : Fin 16) :
    (s.endBusy b).now = s.now ∧ (s.endBusy b).pending = s.pending ∧ (s.endBusy b).resetHeld = s.resetHeld ∧
    (s.endBusy b).flushreqLow = s.flushreqLow ∧ (s.endBusy b).straps = s.straps ∧ (s.endBusy b).part = s.part ∧
    (s.endBusy b).startup = s.startup ∧ (s.endBusy b).port = s.port ∧ (s.endBusy b).settings = s.settings ∧
    (s.endBusy b).regions = s.regions ∧ (s.endBusy b).recency = s.recency ∧ (s.endBusy b).devices = s.devices ∧
    (s.endBusy b).link = s.link ∧ (s.endBusy b).stream = s.stream ∧ (s.endBusy b).watches = s.watches ∧
    (s.endBusy b).supply = s.supply ∧ (s.endBusy b).management = s.management := by
  unfold State.endBusy
  try dsimp only
  repeat' split
  all_goals simp

@[simp] theorem State.handOver_frame (b : Fin 16) :
    (s.handOver b).now = s.now ∧ (s.handOver b).pending = s.pending ∧ (s.handOver b).resetHeld = s.resetHeld ∧
    (s.handOver b).flushreqLow = s.flushreqLow ∧ (s.handOver b).straps = s.straps ∧ (s.handOver b).part = s.part ∧
    (s.handOver b).startup = s.startup ∧ (s.handOver b).port = s.port ∧ (s.handOver b).settings = s.settings ∧
    (s.handOver b).regions = s.regions ∧ (s.handOver b).recency = s.recency ∧ (s.handOver b).queue = s.queue ∧
    (s.handOver b).devices = s.devices ∧ (s.handOver b).link = s.link ∧ (s.handOver b).stream = s.stream ∧
    (s.handOver b).watches = s.watches ∧ (s.handOver b).supply = s.supply ∧ (s.handOver b).management = s.management := by
  unfold State.handOver
  try dsimp only
  repeat' split
  all_goals simp

@[simp] theorem State.takeEntry_frame (b : Fin 16) :
    (s.takeEntry b).now = s.now ∧ (s.takeEntry b).pending = s.pending ∧ (s.takeEntry b).resetHeld = s.resetHeld ∧
    (s.takeEntry b).flushreqLow = s.flushreqLow ∧ (s.takeEntry b).straps = s.straps ∧ (s.takeEntry b).part = s.part ∧
    (s.takeEntry b).startup = s.startup ∧ (s.takeEntry b).port = s.port ∧ (s.takeEntry b).settings = s.settings ∧
    (s.takeEntry b).regions = s.regions ∧ (s.takeEntry b).recency = s.recency ∧ (s.takeEntry b).queue = s.queue ∧
    (s.takeEntry b).devices = s.devices ∧ (s.takeEntry b).link = s.link ∧ (s.takeEntry b).stream = s.stream ∧
    (s.takeEntry b).watches = s.watches ∧ (s.takeEntry b).management = s.management := by
  unfold State.takeEntry
  try dsimp only
  repeat' split
  all_goals simp

@[simp] theorem State.toOwner_frame (a : Access) (d : Decode) :
    (s.toOwner a d).now = s.now ∧ (s.toOwner a d).pending = s.pending ∧ (s.toOwner a d).resetHeld = s.resetHeld ∧
    (s.toOwner a d).flushreqLow = s.flushreqLow ∧ (s.toOwner a d).straps = s.straps ∧ (s.toOwner a d).part = s.part ∧
    (s.toOwner a d).startup = s.startup ∧ (s.toOwner a d).settings = s.settings ∧ (s.toOwner a d).regions = s.regions ∧
    (s.toOwner a d).devices = s.devices ∧ (s.toOwner a d).transmit = s.transmit ∧ (s.toOwner a d).supply = s.supply ∧
    (s.toOwner a d).management = s.management := by
  unfold State.toOwner
  try dsimp only
  repeat' split
  all_goals simp

@[simp] theorem State.handOff_frame :
    (s.handOff).now = s.now ∧ (s.handOff).pending = s.pending ∧ (s.handOff).resetHeld = s.resetHeld ∧
    (s.handOff).flushreqLow = s.flushreqLow ∧ (s.handOff).straps = s.straps ∧ (s.handOff).part = s.part ∧
    (s.handOff).startup = s.startup ∧ (s.handOff).settings = s.settings ∧ (s.handOff).regions = s.regions ∧
    (s.handOff).devices = s.devices ∧ (s.handOff).transmit = s.transmit ∧ (s.handOff).supply = s.supply ∧
    (s.handOff).management = s.management := by
  unfold State.handOff
  try dsimp only
  repeat' split
  all_goals simp

@[simp] theorem State.endUnstartedCheck_frame (b : Fin 16) :
    (s.endUnstartedCheck b).now = s.now ∧ (s.endUnstartedCheck b).pending = s.pending ∧
    (s.endUnstartedCheck b).resetHeld = s.resetHeld ∧ (s.endUnstartedCheck b).flushreqLow = s.flushreqLow ∧
    (s.endUnstartedCheck b).straps = s.straps ∧ (s.endUnstartedCheck b).part = s.part ∧
    (s.endUnstartedCheck b).startup = s.startup ∧ (s.endUnstartedCheck b).port = s.port ∧
    (s.endUnstartedCheck b).settings = s.settings ∧ (s.endUnstartedCheck b).regions = s.regions ∧
    (s.endUnstartedCheck b).recency = s.recency ∧ (s.endUnstartedCheck b).devices = s.devices ∧
    (s.endUnstartedCheck b).link = s.link ∧ (s.endUnstartedCheck b).stream = s.stream ∧
    (s.endUnstartedCheck b).watches = s.watches ∧ (s.endUnstartedCheck b).supply = s.supply ∧
    (s.endUnstartedCheck b).management = s.management := by
  unfold State.endUnstartedCheck
  try dsimp only
  repeat' split
  all_goals simp

@[simp] theorem State.freeLink_frame (l : LinkOperation) :
    (s.freeLink l).pending = s.pending ∧ (s.freeLink l).resetHeld = s.resetHeld ∧
    (s.freeLink l).flushreqLow = s.flushreqLow ∧ (s.freeLink l).straps = s.straps ∧ (s.freeLink l).part = s.part ∧
    (s.freeLink l).startup = s.startup ∧ (s.freeLink l).port = s.port ∧ (s.freeLink l).settings = s.settings ∧
    (s.freeLink l).regions = s.regions ∧ (s.freeLink l).buffers = s.buffers ∧ (s.freeLink l).recency = s.recency ∧
    (s.freeLink l).queue = s.queue ∧ (s.freeLink l).devices = s.devices ∧ (s.freeLink l).requests = s.requests ∧
    (s.freeLink l).transmit = s.transmit ∧ (s.freeLink l).stream = s.stream ∧ (s.freeLink l).watches = s.watches ∧
    (s.freeLink l).supply = s.supply ∧ (s.freeLink l).flags = s.flags ∧ (s.freeLink l).management = s.management := by
  unfold State.freeLink
  try dsimp only
  repeat' split
  all_goals simp

@[simp] theorem State.moveCounter_frame (l : LinkOperation) (a : Nat) :
    (s.moveCounter l a).now = s.now ∧ (s.moveCounter l a).pending = s.pending ∧
    (s.moveCounter l a).resetHeld = s.resetHeld ∧ (s.moveCounter l a).flushreqLow = s.flushreqLow ∧
    (s.moveCounter l a).straps = s.straps ∧ (s.moveCounter l a).part = s.part ∧
    (s.moveCounter l a).startup = s.startup ∧ (s.moveCounter l a).port = s.port ∧
    (s.moveCounter l a).settings = s.settings ∧ (s.moveCounter l a).regions = s.regions ∧
    (s.moveCounter l a).buffers = s.buffers ∧ (s.moveCounter l a).recency = s.recency ∧
    (s.moveCounter l a).queue = s.queue ∧ (s.moveCounter l a).requests = s.requests ∧
    (s.moveCounter l a).link = s.link ∧ (s.moveCounter l a).transmit = s.transmit ∧
    (s.moveCounter l a).stream = s.stream ∧ (s.moveCounter l a).watches = s.watches ∧
    (s.moveCounter l a).supply = s.supply ∧ (s.moveCounter l a).flags = s.flags ∧
    (s.moveCounter l a).management = s.management := by
  unfold State.moveCounter
  try dsimp only
  repeat' split
  all_goals simp

@[simp] theorem State.fetchComplete_frame (b : Fin 16) (data : PageBytes) :
    (s.fetchComplete b data).now = s.now ∧ (s.fetchComplete b data).pending = s.pending ∧
    (s.fetchComplete b data).resetHeld = s.resetHeld ∧ (s.fetchComplete b data).flushreqLow = s.flushreqLow ∧
    (s.fetchComplete b data).straps = s.straps ∧ (s.fetchComplete b data).part = s.part ∧
    (s.fetchComplete b data).startup = s.startup ∧ (s.fetchComplete b data).settings = s.settings ∧
    (s.fetchComplete b data).regions = s.regions ∧ (s.fetchComplete b data).queue = s.queue ∧
    (s.fetchComplete b data).devices = s.devices ∧ (s.fetchComplete b data).link = s.link ∧
    (s.fetchComplete b data).stream = s.stream ∧ (s.fetchComplete b data).watches = s.watches ∧
    (s.fetchComplete b data).flags = s.flags ∧ (s.fetchComplete b data).management = s.management := by
  unfold State.fetchComplete
  try dsimp only
  repeat' split
  all_goals simp

@[simp] theorem State.fetchFailed_frame (b : Fin 16) (x : Stall) :
    (s.fetchFailed b x).now = s.now ∧ (s.fetchFailed b x).pending = s.pending ∧
    (s.fetchFailed b x).resetHeld = s.resetHeld ∧ (s.fetchFailed b x).flushreqLow = s.flushreqLow ∧
    (s.fetchFailed b x).straps = s.straps ∧ (s.fetchFailed b x).part = s.part ∧
    (s.fetchFailed b x).startup = s.startup ∧ (s.fetchFailed b x).settings = s.settings ∧
    (s.fetchFailed b x).regions = s.regions ∧ (s.fetchFailed b x).devices = s.devices ∧
    (s.fetchFailed b x).stream = s.stream ∧ (s.fetchFailed b x).watches = s.watches ∧
    (s.fetchFailed b x).supply = s.supply ∧ (s.fetchFailed b x).management = s.management := by
  unfold State.fetchFailed
  try dsimp only
  repeat' split
  all_goals simp

@[simp] theorem State.operationFailed_frame (l : LinkOperation) (x : Stall) :
    (s.operationFailed l x).now = s.now ∧ (s.operationFailed l x).pending = s.pending ∧
    (s.operationFailed l x).resetHeld = s.resetHeld ∧ (s.operationFailed l x).flushreqLow = s.flushreqLow ∧
    (s.operationFailed l x).straps = s.straps ∧ (s.operationFailed l x).part = s.part ∧
    (s.operationFailed l x).startup = s.startup ∧ (s.operationFailed l x).settings = s.settings ∧
    (s.operationFailed l x).regions = s.regions ∧ (s.operationFailed l x).devices = s.devices ∧
    (s.operationFailed l x).watches = s.watches ∧ (s.operationFailed l x).management = s.management := by
  unfold State.operationFailed
  try dsimp only
  repeat' split
  all_goals simp

@[simp] theorem State.endOperation_frame (o : Operation) :
    (s.endOperation o).now = s.now ∧ (s.endOperation o).pending = s.pending ∧
    (s.endOperation o).resetHeld = s.resetHeld ∧ (s.endOperation o).flushreqLow = s.flushreqLow ∧
    (s.endOperation o).straps = s.straps ∧ (s.endOperation o).part = s.part ∧ (s.endOperation o).startup = s.startup ∧
    (s.endOperation o).settings = s.settings ∧ (s.endOperation o).regions = s.regions ∧
    (s.endOperation o).devices = s.devices ∧ (s.endOperation o).watches = s.watches ∧
    (s.endOperation o).supply = s.supply ∧ (s.endOperation o).management = s.management := by
  unfold State.endOperation
  try dsimp only
  repeat' split
  all_goals simp

@[simp] theorem State.endOperations_frame (d : Fin 4) :
    (s.endOperations d).now = s.now ∧ (s.endOperations d).pending = s.pending ∧
    (s.endOperations d).resetHeld = s.resetHeld ∧ (s.endOperations d).flushreqLow = s.flushreqLow ∧
    (s.endOperations d).straps = s.straps ∧ (s.endOperations d).part = s.part ∧
    (s.endOperations d).startup = s.startup ∧ (s.endOperations d).settings = s.settings ∧
    (s.endOperations d).regions = s.regions ∧ (s.endOperations d).devices = s.devices ∧
    (s.endOperations d).watches = s.watches ∧ (s.endOperations d).supply = s.supply ∧
    (s.endOperations d).management = s.management := by
  unfold State.endOperations
  refine foldl_invariant (P := fun t : State =>
      t.now = s.now ∧ t.pending = s.pending ∧ t.resetHeld = s.resetHeld ∧ t.flushreqLow = s.flushreqLow ∧
      t.straps = s.straps ∧ t.part = s.part ∧ t.startup = s.startup ∧ t.settings = s.settings ∧
      t.regions = s.regions ∧ t.devices = s.devices ∧ t.watches = s.watches ∧ t.supply = s.supply ∧
      t.management = s.management) ?_ ?_
  · simp
  · intro t x h
    (try split) <;> simpa using h

@[simp] theorem State.deviceStuck_frame (d : Fin 4) :
    (s.deviceStuck d).now = s.now ∧ (s.deviceStuck d).pending = s.pending ∧ (s.deviceStuck d).resetHeld = s.resetHeld ∧
    (s.deviceStuck d).flushreqLow = s.flushreqLow ∧ (s.deviceStuck d).straps = s.straps ∧
    (s.deviceStuck d).part = s.part ∧ (s.deviceStuck d).startup = s.startup ∧ (s.deviceStuck d).port = s.port ∧
    (s.deviceStuck d).settings = s.settings ∧ (s.deviceStuck d).regions = s.regions ∧
    (s.deviceStuck d).buffers = s.buffers ∧ (s.deviceStuck d).recency = s.recency ∧ (s.deviceStuck d).queue = s.queue ∧
    (s.deviceStuck d).requests = s.requests ∧ (s.deviceStuck d).link = s.link ∧
    (s.deviceStuck d).transmit = s.transmit ∧ (s.deviceStuck d).stream = s.stream ∧
    (s.deviceStuck d).watches = s.watches ∧ (s.deviceStuck d).supply = s.supply ∧
    (s.deviceStuck d).management = s.management := by
  unfold State.deviceStuck
  try dsimp only
  repeat' split
  all_goals simp

@[simp] theorem State.endCommitOf_frame (d : Fin 4) (b : Fin 16) :
    (s.endCommitOf d b).now = s.now ∧ (s.endCommitOf d b).pending = s.pending ∧
    (s.endCommitOf d b).resetHeld = s.resetHeld ∧ (s.endCommitOf d b).flushreqLow = s.flushreqLow ∧
    (s.endCommitOf d b).straps = s.straps ∧ (s.endCommitOf d b).part = s.part ∧
    (s.endCommitOf d b).startup = s.startup ∧ (s.endCommitOf d b).port = s.port ∧
    (s.endCommitOf d b).settings = s.settings ∧ (s.endCommitOf d b).regions = s.regions ∧
    (s.endCommitOf d b).recency = s.recency ∧ (s.endCommitOf d b).queue = s.queue ∧
    (s.endCommitOf d b).devices = s.devices ∧ (s.endCommitOf d b).link = s.link ∧
    (s.endCommitOf d b).stream = s.stream ∧ (s.endCommitOf d b).watches = s.watches ∧
    (s.endCommitOf d b).supply = s.supply ∧ (s.endCommitOf d b).flags = s.flags ∧
    (s.endCommitOf d b).management = s.management := by
  unfold State.endCommitOf
  try dsimp only
  repeat' split
  all_goals simp

@[simp] theorem State.freeCleanOf_frame (d : Fin 4) (b : Fin 16) :
    (s.freeCleanOf d b).now = s.now ∧ (s.freeCleanOf d b).pending = s.pending ∧
    (s.freeCleanOf d b).resetHeld = s.resetHeld ∧ (s.freeCleanOf d b).flushreqLow = s.flushreqLow ∧
    (s.freeCleanOf d b).straps = s.straps ∧ (s.freeCleanOf d b).part = s.part ∧
    (s.freeCleanOf d b).startup = s.startup ∧ (s.freeCleanOf d b).port = s.port ∧
    (s.freeCleanOf d b).settings = s.settings ∧ (s.freeCleanOf d b).regions = s.regions ∧
    (s.freeCleanOf d b).devices = s.devices ∧ (s.freeCleanOf d b).transmit = s.transmit ∧
    (s.freeCleanOf d b).stream = s.stream ∧ (s.freeCleanOf d b).watches = s.watches ∧
    (s.freeCleanOf d b).supply = s.supply ∧ (s.freeCleanOf d b).management = s.management := by
  unfold State.freeCleanOf
  try dsimp only
  repeat' split
  all_goals simp

@[simp] theorem State.pollAcknowledged_frame (d : Fin 4) :
    (s.pollAcknowledged d).now = s.now ∧ (s.pollAcknowledged d).pending = s.pending ∧
    (s.pollAcknowledged d).resetHeld = s.resetHeld ∧ (s.pollAcknowledged d).flushreqLow = s.flushreqLow ∧
    (s.pollAcknowledged d).straps = s.straps ∧ (s.pollAcknowledged d).part = s.part ∧
    (s.pollAcknowledged d).startup = s.startup ∧ (s.pollAcknowledged d).port = s.port ∧
    (s.pollAcknowledged d).settings = s.settings ∧ (s.pollAcknowledged d).regions = s.regions ∧
    (s.pollAcknowledged d).recency = s.recency ∧ (s.pollAcknowledged d).link = s.link ∧
    (s.pollAcknowledged d).stream = s.stream ∧ (s.pollAcknowledged d).watches = s.watches ∧
    (s.pollAcknowledged d).supply = s.supply ∧ (s.pollAcknowledged d).management = s.management := by
  unfold State.pollAcknowledged
  try dsimp only
  repeat' split
  all_goals simp

@[simp] theorem State.pollRefused_frame (d : Fin 4) :
    (s.pollRefused d).now = s.now ∧ (s.pollRefused d).pending = s.pending ∧ (s.pollRefused d).resetHeld = s.resetHeld ∧
    (s.pollRefused d).flushreqLow = s.flushreqLow ∧ (s.pollRefused d).straps = s.straps ∧
    (s.pollRefused d).part = s.part ∧ (s.pollRefused d).startup = s.startup ∧ (s.pollRefused d).port = s.port ∧
    (s.pollRefused d).settings = s.settings ∧ (s.pollRefused d).regions = s.regions ∧
    (s.pollRefused d).buffers = s.buffers ∧ (s.pollRefused d).recency = s.recency ∧ (s.pollRefused d).queue = s.queue ∧
    (s.pollRefused d).requests = s.requests ∧ (s.pollRefused d).link = s.link ∧
    (s.pollRefused d).transmit = s.transmit ∧ (s.pollRefused d).stream = s.stream ∧
    (s.pollRefused d).watches = s.watches ∧ (s.pollRefused d).supply = s.supply ∧ (s.pollRefused d).flags = s.flags ∧
    (s.pollRefused d).management = s.management := by
  unfold State.pollRefused
  try dsimp only
  repeat' split
  all_goals simp

end Sys2Proof.Machine
end

