-- ==== Sys2Proof/Laws/Settle.lean ====
section
/-! SUPPORT. What drawing the consequences of a command can do: the shapes of one consequence, an induction principle, and
what they leave unchanged. -/
namespace Sys2Proof.Machine

/-- The shapes of one consequence of `s`, with the condition that its rule gives. -/
inductive Drawn (s : State) : State → Prop where
  | refused (c : Cause) (h : s.waiting.isSome = true) : Drawn s (s.refuse c)
  | completed (b : Fin 16) (h : s.waiting = some (.entry b)) (hq : Queue.hasEntry s.queue b = false) :
      Drawn s (s.complete 0)
  | resolved (t : State) (h : s.waiting.isSome = true) (ht : s.resolveAgain = some t) : Drawn s t
  | served (h : s.waiting = some .streamByte) (hq : s.stream.queue ≠ []) : Drawn s s.serveStream
  | flushed (h : s.flushComplete = true) : Drawn s s.completeFlush
  | stopped (b : Fin 16) (hs : s.budgetSpent = true) (h : s.engineWaits b = true) : Drawn s (s.stopCommit b)
  | started (b : Fin 16) (h : s.eligible b = true) : Drawn s (s.startCommit b)
  | handedOver (b : Fin 16) (h : s.meetsButForDevice b = true) : Drawn s (s.handOver b)
  | probed (h : s.startup.phase = .probe) (hr : s.resetHeld = false) : Drawn s s.endProbePhase
  | startedUp (h : s.startup.phase = .read ∨ s.startup.phase = .install) (hr : s.resetHeld = false) :
      Drawn s s.endStartup

/-- A consequence of an access that waits. -/
theorem State.settleAccess_drawn {s t : State} (h : s.settleAccess = some t) : Drawn s t := by
  unfold State.settleAccess at h
  split at h <;> rename_i hw
  · unfold State.settleHeldWrite at h
    split at h
    · split at h
      · cases h; exact .refused _ (by rw [hw]; rfl)
      · cases h
    · exact .resolved t (by rw [hw]; rfl) h
  · unfold State.settleWriteThrough at h
    split at h
    · split at h
      · cases h; exact .refused _ (by rw [hw]; rfl)
      · cases h
    · rename_i b hq
      cases h
      exact .completed _ hw (by simpa using hq)
  · unfold State.settleFetchRead at h
    split at h
    · cases h
    · exact .resolved t (by rw [hw]; rfl) h
  · unfold State.settleDemandRead at h
    split at h
    · cases h
    · cases h; exact .refused _ (by rw [hw]; rfl)
    · cases h
    · rename_i hq
      cases h
      exact .served hw (by intro hn; simp_all)
  all_goals exact absurd h (by simp)

/-- Every consequence has one of the shapes. -/
theorem State.consequence_drawn {s t : State} (h : s.consequence = some t) : Drawn s t := by
  unfold State.consequence at h
  simp only [Option.orElse_eq_orElse, Option.orElse_eq_or, Option.or_eq_some_iff] at h
  rcases h with h | ⟨-, h | ⟨-, h | ⟨-, h | ⟨-, h | ⟨-, h⟩⟩⟩⟩⟩
  · exact State.settleAccess_drawn h
  · unfold State.settleFlush at h
    split at h
    · cases h; exact .flushed ‹_›
    · cases h
  · unfold State.settleFill at h
    split at h
    · rename_i hs
      obtain ⟨b, hb, rfl⟩ := Option.map_eq_some_iff.mp h
      exact .stopped b hs (List.find?_some hb)
    · cases h
  · unfold State.settleQueue at h
    obtain ⟨b, hb, rfl⟩ := Option.map_eq_some_iff.mp h
    have h2 := List.find?_some hb
    unfold State.takeEntry
    split
    · exact .started b ‹_›
    · rename_i he
      refine .handedOver b ?_
      simpa [he] using h2
  · unfold State.settleBufferWait at h
    split at h
    · rename_i hw
      split at h
      · exact .resolved t (by rw [hw]; rfl) h
      · split at h
        · cases h; exact .refused _ (by rw [hw]; rfl)
        · cases h
    · cases h
  · unfold State.settleStartup at h
    split at h
    · cases h
    · rename_i hr
      have hr : s.resetHeld = false := by simpa using hr
      split at h
      · split at h
        · cases h
        · cases h; exact .probed ‹_› hr
      · split at h
        · cases h
        · cases h; exact .startedUp (.inl ‹_›) hr
      · cases h; exact .startedUp (.inr ‹_›) hr
      · cases h

/-- What holds of a state, and is kept by every consequence, holds when they have been drawn. -/
theorem State.settle_induct {P : State → Prop} (h : ∀ s t, P s → Drawn s t → P t) {s : State} (hs : P s) :
    P s.settle := by
  unfold State.settle
  generalize Config.settleBound = n
  induction n generalizing s with
  | zero => exact hs
  | succ n ih =>
    unfold settleFor
    split
    · exact hs
    · rename_i t ht
      exact ih (h s t hs (State.consequence_drawn ht))

/-- A settled state has no consequence to draw. -/
theorem State.settle_of_settled {s : State} (h : s.settled) : s.settle = s := by
  unfold State.settle Config.settleBound settleFor
  have h : s.consequence = none := h
  rw [h]

/-- A settled state that did not newly meet the short condition is the end of its step. -/
theorem State.conclude_of_settled {s before : State} (h : s.settled)
    (hs : s.shortCondition = false ∨ before.shortCondition = true) : s.conclude before = s := by
  unfold State.conclude State.noteShort
  rw [State.settle_of_settled h]
  rcases hs with hs | hs <;> simp [hs]

/-- The fields that no consequence writes: the clock, the queue of commands, the pins and the Management Link. -/
abbrev State.SameOutside (s t : State) : Prop :=
  t.now = s.now ∧ t.pending = s.pending ∧ t.resetHeld = s.resetHeld ∧ t.flushreqLow = s.flushreqLow ∧
    t.straps = s.straps ∧ t.management = s.management

/-- What two steps in a row leave as it was. -/
theorem State.SameOutside.trans {s t u : State} (h : s.SameOutside t) (h' : t.SameOutside u) : s.SameOutside u := by
  simp_all [State.SameOutside]

/-- Entering HOLDUP writes none of them (R160). -/
theorem State.enterHoldup_sameOutside (s : State) : s.SameOutside s.enterHoldup := by
  unfold State.enterHoldup
  refine foldl_invariant (P := fun t => s.SameOutside t) ?_ ?_
  · simp [State.SameOutside]
  · intro a b ha
    simpa [State.SameOutside] using ha

/-- The end of start-up writes none of them (R188, R189). -/
theorem State.endStartup_sameOutside (s : State) : s.SameOutside s.endStartup := by
  unfold State.endStartup
  generalize startupDecision s.startup.store = p
  obtain ⟨o, c⟩ := p
  have h1 : s.SameOutside (s.installConfiguration o c) := ⟨rfl, rfl, rfl, rfl, rfl, rfl⟩
  dsimp only
  generalize s.installConfiguration o c = u at h1
  have h2 : s.SameOutside (if o = .defaultsFlagged then u.raise .descriptor else u) := by
    split
    · exact h1
    · exact h1
  generalize (if o = .defaultsFlagged then u.raise .descriptor else u) = v at h2
  split
  · exact h2.trans (State.enterHoldup_sameOutside v)
  · split
    · simpa [State.SameOutside] using h2
    · exact h2

/-- Resolving an access again writes none of them. -/
theorem State.resolveAgain_sameOutside {s t : State} (h : s.resolveAgain = some t) : s.SameOutside t := by
  unfold State.resolveAgain at h
  repeat' split at h
  all_goals cases h
  all_goals simp [State.SameOutside]

/-- No consequence writes them. -/
theorem Drawn.sameOutside {s t : State} (h : Drawn s t) : s.SameOutside t := by
  cases h with
  | resolved _ _ ht => exact State.resolveAgain_sameOutside ht
  | startedUp _ _ => exact State.endStartup_sameOutside s
  | probed _ _ =>
    unfold State.endProbePhase
    split
    · exact ⟨rfl, rfl, rfl, rfl, rfl, rfl⟩
    · exact State.endStartup_sameOutside s
  | _ => simp [State.SameOutside]

/-- Drawing the consequences writes none of them. -/
theorem State.settle_sameOutside (s : State) : s.SameOutside s.settle :=
  State.settle_induct (P := fun t => s.SameOutside t)
    (fun a b ha hd => by
      have := hd.sameOutside
      simp_all [State.SameOutside])
    (by simp [State.SameOutside])

/-- The end of a step writes none of them. -/
theorem State.conclude_sameOutside (s before : State) : s.SameOutside (s.conclude before) := by
  have h := s.settle_sameOutside
  unfold State.conclude State.noteShort
  split
  · simpa [State.SameOutside] using h
  · exact h

end Sys2Proof.Machine
end

