-- ==== Sys2Proof/WellFormed.lean ====
section
/-! DEFINITION. Which commands are well formed. Every operand but one carries its bound in its type; the index of the
unacknowledged byte of a TRANSFER_ERROR is a number, bounded by the longest byte sequence the KL-416 sends. -/
namespace Sys2Proof

/-- Bytes of the longest transfer the KL-416 sends: a select byte, two address bytes and 64 data bytes (R111). -/
def longestSent : Nat := 67

/-- A command is well formed when its operands can occur at the pins (R109, R111). -/
def Instr.wellFormed : Instr → Bool
  | .transferError byteIndex => decide (byteIndex < longestSent)
  | .hostAccessStart .. | .hostAccessEnd .. | .waitDeadline | .holdDeadline | .arbiterStart | .pageFetchComplete ..
  | .commitStart .. | .absentHandover .. | .programComplete | .pollDue .. | .pollAcknowledge | .pollRefuse
  | .programTimeout .. | .checkReadComplete .. | .ageDeadline .. | .flushreqFall | .streamReadComplete ..
  | .probeSelectDue .. | .probeSelectAcknowledge | .probeSelectRefuse | .probeDeadline .. | .descriptorReadComplete ..
  | .supplyBelowWarning | .supplyAboveWarning | .sagTimerExpiry | .supplyAboveRecovery | .supplyBelowRecovery
  | .recoveryTimerExpiry | .powerOnReset | .rstAssert | .resetEnd .. | .managementAddressByte .. | .pointerByte ..
  | .dataByte .. | .managementTransactionEnd | .regionApply | .watchApply | .settingsApply | .eventFlagClear
  | .faultRecordEmpty | .readOnlyApply | .commandArgumentStore | .flush | .barrier | .retry | .discard | .dropClean
  | .reprobe | .unknownCommand | .flushreqRise | .managementReadByte .. => true

end Sys2Proof
end

