-- ==== Sys2Proof/Tests/Slice0.lean ====
section
/-! SUPPORT. Tests on small states: the well-formedness check, worked values of the spec's formats, and for every
statement with hypotheses a state and operands that meet them. -/
namespace Sys2Proof.Tests

open Sys2Proof.Machine

set_option synthInstance.maxSize 1000
set_option synthInstance.maxHeartbeats 200000

/-! ### Well-formedness and decoding -/

theorem test_transferErrorBeyondTheLongestTransferIsIllFormed :
    Instr.wellFormed (.transferError 66) = true ∧ Instr.wellFormed (.transferError 67) = false := by decide

theorem test_noRowGivesBits : decodeTableWord 8 0 = none ∧ State.reset.withFetchWord 8 0 = State.reset := by decide

/-! ### States -/

/-- A region of four pages, with the same base on both sides. -/
def region (base : Nat) (device : Fin 4) (p : Policy) : Region :=
  { Region.cleared with enabled := true, hostBase := base, pageCount := 4, device, deviceBase := base, policy := p }

/-- RUNNING with four READY devices and a region of each policy, the STREAM one at the top of the host space. -/
def running : State :=
  { State.reset with
    part := .running
    startup := { phase := .done, store := none, outcome := some .good }
    regions := #v[region 0 0 .writeBack, region 4 1 .writeThrough, region 8 2 .readOnly,
      { region 508 3 .stream with hostBase := 16380 }, Region.cleared, Region.cleared, Region.cleared, Region.cleared]
    devices := Vector.replicate 4 { Device.afterReset with state := .ready } }

/-- The same, with device `d` in a state. -/
def withDevice (s : State) (d : Fin 4) (x : Device) : State := { s with devices := s.devices.set d x }

/-- The same part in HOLDUP with the supply LOW. -/
def holdup : State := { running with part := .holdup, supply := { running.supply with state := .low } }

/-- A CLEAN buffer that knows all of device 0 page 0. -/
def cleanBuffer : PageBuffer :=
  { PageBuffer.freed with state := .clean, tag := some ⟨0, 0⟩, valid := BitVec.allOnes 64 }

/-- A DIRTY buffer that knows the first byte of device 0 page 0. -/
def dirtyBuffer : PageBuffer :=
  { PageBuffer.freed with state := .dirty, tag := some ⟨0, 0⟩, valid := 1, dirty := 1, commitRegion := some 0 }

/-- A FAILED buffer of the same page. -/
def failedBuffer : PageBuffer := { dirtyBuffer with state := .failed, attempts := 3 }

/-- A COMMITTING buffer of the same page, its one byte in flight. -/
def committingBuffer (stage : Stage) (attempts : Nat) (verify : Bool) : PageBuffer :=
  { dirtyBuffer with
    state := .committing, dirty := 0, inFlight := 1, stage := some stage, attempts := attempts
    sent := some ⟨0, 1, verify⟩ }

/-- `s` with buffer 0 standing for device 0 page 0, and a queue. -/
def withBuffer (s : State) (x : PageBuffer) (q : List QueueEntry) : State :=
  { s with buffers := s.buffers.set 0 x, recency := [0], queue := q }

/-- A DIRTY buffer of device 1 page 4, which the second region maps. -/
def otherBuffer (x : PageBuffer) : PageBuffer := { x with tag := some ⟨1, 4⟩, commitRegion := some 1 }

/-- `s` with two buffers and a queue. -/
def withTwoBuffers (s : State) (x y : PageBuffer) (q : List QueueEntry) : State :=
  { s with buffers := (s.buffers.set 0 x).set 1 y, recency := [0, 1], queue := q }

/-- The entry of buffer `b` with no cause of its own. -/
def entry (b : Fin 16) : QueueEntry := .buffer b false false

/-- An access on the host bus at clock 0. -/
def access (dir : Direction) (d : Option Decode) (status : AccessStatus) : Access :=
  { direction := dir, address := 0, writeByte := none, decode := d, edgeTime := 0, waitDeadline := 3,
    holdDeadline := some 1600000, status := status }

/-- `s` with an access in progress. -/
def withAccess (s : State) (a : Access) : State := { s with port := { s.port with access := some a } }

/-- The decode of host address 0 in `running`. -/
def decodeZero : Decode := { region := 0, device := 0, address := 0, policy := .writeBack, wait := 0 }

/-- An operation on the link, started at clock 0. -/
def operation (k : OperationKind) (device : Fin 4) (start length attempts selectErrors : Nat) (form : TransferForm) :
    LinkOperation :=
  { operation := ⟨k, device, start, length⟩, form := form, attempts := attempts, selectErrors := selectErrors,
    attemptStart := 0, hasRequester := true, counterLost := false }

/-- `s` with an operation on the link. -/
def withLink (s : State) (l : LinkOperation) : State := { s with link := some l }

/-- A page fetch of device 0 page 0 for buffer 0. -/
def fetchZero : LinkOperation := operation (.pageFetch 0) 0 0 64 1 0 .addressedRead

/-- A poll and a probe select of device 0. -/
def pollZero : LinkOperation := operation .poll 0 0 0 1 0 .selectOnly
def selectZero : LinkOperation := operation .probeSelect 0 0 0 1 0 .selectOnly

/-- A PROGRAMMING device at clock 0. -/
def programming : Device :=
  { Device.afterReset with state := .programming, pollDue := some 4000, timeout := some 160000 }

/-- A STUCK device at clock 0. -/
def stuck : Device := { Device.afterReset with state := .stuck, pollDue := some 160000 }

/-- A device with a probe in progress. -/
def probed (x : Device) (deadline : Time) : Device := { x with probe := some ⟨deadline, 0⟩ }

/-- `s` with the shadow of an open write transaction. -/
def withShadow (s : State) (x : Shadow) : State :=
  { s with management := { s.management with transaction := .addressedWrite true, shadow := some x } }

/-- A shadow of an entry, wholly written. -/
def shadowOf (e : Fin 32) (bytes : Vector Byte 8) : Shadow := { entry := e, bytes := bytes, written := 0xFF }

/-- A shadow of the command entry. -/
def commandShadow (code argument : Byte) : Shadow :=
  { entry := 31, bytes := #v[code, argument, 0, 0, 0, 0, 0, 0], written := 3 }

/-- A stream at the device address of host address 0xFFFFF, with a queue and a burst. -/
def streaming (s : State) (address limit : Nat) (q : List Byte) (u : Option Burst) : State :=
  { s with stream := { s.stream with
      context := some { hostAddress := 0xFFFFF, region := 3, device := 3, address, limit }, queue := q, burst := u } }

/-- The decode of host address 0xFFFFF in `running`. -/
def decodeTop : Decode := { region := 3, device := 3, address := 32767, policy := .stream, wait := 0 }

/-! ### States that meet the hypotheses of the statements -/

theorem test_hyp_StepRunsFrontCommandOrTicks :
    ({ running with pending := [.barrier, .flush] } : State).pending = .barrier :: [.flush] ∧ running.pending = [] := by
  decide

theorem test_hyp_ResetClearsAndHoldsEveryBlock :
    State.held.resetHeld = true ∧ (∀ style msa below, Instr.waitDeadline ≠ .resetEnd style msa below) ∧
    Instr.waitDeadline ≠ .powerOnReset ∧ Instr.waitDeadline ≠ .rstAssert ∧ Instr.waitDeadline ≠ .flushreqFall ∧
    Instr.waitDeadline ≠ .flushreqRise := by
  refine ⟨by decide, ?_, by decide, by decide, by decide, by decide⟩
  intro style msa below h
  cases h

theorem test_hyp_ResetEndStartsStartup : State.held.resetHeld = true := by decide

theorem test_hyp_AccessInHoldupIsRefused :
    holdup.inService ∧ holdup.part = .holdup ∧ holdup.port.access = none ∧
    activeDirection holdup.straps.style .rdsFall = some .read ∧
    activeDirection holdup.straps.style .wrsFall = some .write := by decide

theorem test_hyp_AccessInStartingIsHeld :
    State.reset.resetHeld = false ∧ State.reset.settled ∧ State.reset.part = .starting ∧
    State.reset.port.access = none ∧ activeDirection State.reset.straps.style .wrsFall = some .write ∧
    (withAccess running (access .read none (.done .completed))).settled ∧
    (withAccess running (access .read none (.done .completed))).port.access ≠ none ∧
    activeDirection running.straps.style (.enRise true) = none ∧
    activeDirection .enable (.enRise false) = some .write ∧ activeDirection .enable .rdsFall = none := by decide

theorem test_hyp_UnservedAccessIsRefused :
    (running.inService ∧ running.settled ∧ running.part = .running ∧ running.port.access = none ∧
      activeDirection running.straps.style .rdsFall = some .read ∧
      ∀ n : Fin 8, running.regions[n].covers ((0xFFEFF#20 : HostAddress).toNat / 64) = false) ∧
    (running.takesAccess .wrsFall .write 0x200 ⟨2, 2, 0x200, .readOnly, 0⟩) ∧
    (running.takesAccess .wrsFall .write 0xFFFFF decodeTop) ∧
    running.decode 0xFFEFF = none ∧ running.decode 0xFFFFF = some decodeTop ∧
    running.decode 0xFFF00 = some { decodeTop with address := 508 * 64 } := by decide

theorem test_hyp_ReadIsAnsweredAtOnce :
    (let s := withBuffer running cleanBuffer []
     s.takesAccess .rdsFall .read 63 { decodeZero with address := 63 } ∧ s.settled ∧
       s.findBuffer 0 (63 / 64) = some 0 ∧ s.knownByte 0 63 = some 0) ∧
    (let s := withDevice running 0 Device.afterReset
     s.takesAccess .rdsFall .read 0 decodeZero ∧ s.settled ∧ s.knownByte 0 0 = none ∧ s.devices[(0 : Fin 4)].state = .absent) ∧
    (let s := withDevice running 0 stuck
     s.takesAccess .rdsFall .read 0 decodeZero ∧ s.settled ∧ s.knownByte 0 0 = none ∧
       s.devices[(0 : Fin 4)].state = .stuck) := by decide

theorem test_hyp_ReadOfAbsentPageFetches :
    running.takesAccess .rdsFall .read 0xFF { decodeZero with address := 0xFF } ∧ running.coherent ∧
    running.findBuffer 0 (0xFF / 64) = none ∧ running.unreachable 0 = false ∧ running.victim = some 0 := by decide

/-- No buffer can be evicted: buffer `b` stands for device 2 page `b`, all FAILED but buffer 15, which is CLEAN and its
fetch on the link. -/
def noVictim (last : BufferState) : State :=
  { running with
    buffers := Vector.ofFn fun b =>
      if b = 15 ∧ last = .clean then { PageBuffer.freed with state := .clean, tag := some ⟨2, 15⟩, fill := true }
      else { failedBuffer with tag := some ⟨2, b⟩ }
    recency := List.finRange 16
    queue := ((List.finRange 16).filter fun b => decide (b ≠ 15 ∨ last = .failed)).map entry
    link := if last = .clean then some (operation (.pageFetch 15) 2 960 64 1 0 .addressedRead) else none }

theorem test_hyp_ReadOfAbsentPageFetches_noVictim :
    ∀ last ∈ [BufferState.clean, .failed],
      (noVictim last).takesAccess .wrsFall .write 0 decodeZero ∧ (noVictim last).takesAccess .rdsFall .read 0 decodeZero ∧
      (noVictim last).settled ∧ (noVictim last).unwatched 0 ∧ (noVictim last).findBuffer 0 (0 / 64) = none ∧
      (noVictim last).unreachable 0 = false ∧ (noVictim last).victim = none ∧ (noVictim last).recencyGood := by decide

theorem test_victimIsTheLowestFreeElseTheLeastRecentClean :
    running.victim = some 0 ∧ (withBuffer running cleanBuffer []).victim = some 1 ∧
    ({ running with
      buffers := Vector.replicate 16 cleanBuffer
      recency := 7 :: (List.finRange 16).erase 7 } : State).victim = some 15 := by decide

theorem test_hyp_WriteBackWriteIsApplied :
    (let s := withBuffer running dirtyBuffer [entry 0]
     s.takesAccess .wrsFall .write 63 { decodeZero with address := 63 } ∧ s.coherent ∧ s.unwatched 63 ∧
       s.findBuffer 0 (63 / 64) = some 0 ∧ Queue.markerBehind s.queue 0 = false ∧ Queue.hasEntry s.queue 0 = true) ∧
    (running.takesAccess .wrsFall .write 0 decodeZero ∧ running.coherent ∧ running.unwatched 0 ∧
      running.findBuffer 0 (0 / 64) = none ∧ running.victim = some 0 ∧ Queue.hasEntry running.queue 0 = false) := by
  decide

/-- A stream of device 0 at address 62 with one queued byte, and a burst for address 63. -/
def streamOfZero : State :=
  { withBuffer running dirtyBuffer [entry 0] with
    stream := { running.stream with
      context := some { hostAddress := 0xFFFBE, region := 3, device := 0, address := 62, limit := 63 }, queue := [9]
      burst := some { device := 0, start := 63, length := 1, spoiled := false } } }

theorem test_hyp_WriteBackWriteIsApplied_guardedRange :
    streamOfZero.takesAccess .wrsFall .write 63 { decodeZero with address := 63 } ∧ streamOfZero.coherent ∧
    streamOfZero.unwatched 63 ∧ streamOfZero.findBuffer 0 (63 / 64) = some 0 ∧
    streamOfZero.inGuardedRange 0 62 ∧ streamOfZero.inGuardedRange 0 63 ∧ ¬ streamOfZero.inGuardedRange 0 61 ∧
    ¬ streamOfZero.inGuardedRange 0 64 ∧ ¬ streamOfZero.inGuardedRange 1 62 := by decide

/-- `running` with a watch that triggers on every byte but 5 at host address 0. -/
def watched : State :=
  { running with
    watches := running.watches.set 0 { Watch.afterReset with enabled := true, mask := 0xFF, compare := 5, commit := true } }

theorem test_hyp_WatchesFollowTheWrite :
    (let s := withBuffer watched cleanBuffer []
     s.takesAccess .wrsFall .write 0 decodeZero ∧ s.coherent ∧ Queue.hasEntry s.queue 0 = false ∧
       s.findBuffer 0 (0 / 64) = some 0 ∧ s.watches[(0 : Fin 8)].watchesAddress 0 = true ∧
       s.watches[(0 : Fin 8)].triggers 4 = true ∧ s.watches[(1 : Fin 8)].watchesAddress 0 = false) ∧
    (watched.takesAccess .wrsFall .write 0 decodeZero ∧ watched.coherent ∧ Queue.hasEntry watched.queue 0 = false ∧
      watched.findBuffer 0 (0 / 64) = none ∧ watched.victim = some 0) ∧
    (let s := withBuffer watched dirtyBuffer [entry 0]
     s.takesAccess .wrsFall .write 0 decodeZero ∧ s.coherent ∧ Queue.hasEntry s.queue 0 = true ∧
       Queue.markerBehind s.queue 0 = false ∧ s.findBuffer 0 (0 / 64) = some 0 ∧
       ∀ n : Fin 8, s.watches[n].barrierBefore = false) := by decide

/-- `running` with a watch that barriers before and behind a write of anything but 5 to host address 0. -/
def barred : State :=
  { running with
    watches := running.watches.set 7
      { Watch.afterReset with enabled := true, mask := 0xFF, compare := 5, barrierBefore := true, barrierAfter := true } }

theorem test_hyp_WatchesFollowTheWrite_barriers :
    (let s := withTwoBuffers barred cleanBuffer (otherBuffer dirtyBuffer) [entry 1]
     s.takesAccess .wrsFall .write 0 decodeZero ∧ s.coherent ∧ Queue.hasEntry s.queue 0 = false ∧ s.queue ≠ [] ∧
       s.findBuffer 0 (0 / 64) = some 0 ∧ s.watches[(7 : Fin 8)].triggers 4 = true ∧
       s.watches[(7 : Fin 8)].barrierAfter = true) ∧
    (let s := withBuffer barred dirtyBuffer [entry 0]
     s.takesAccess .wrsFall .write 0 decodeZero ∧ s.coherent ∧ Queue.hasEntry s.queue 0 = true ∧
       s.watches[(7 : Fin 8)].watchesAddress 0 = true ∧ s.watches[(7 : Fin 8)].triggers 4 = true ∧
       s.findBuffer 0 (0 / 64) = some 0 ∧ s.isFailed 0 = false ∧ s.blocked 0 = false ∧
       ∀ e : Fin 4, s.devices[e].state ≠ .absent) ∧
    (let s := withBuffer barred failedBuffer [entry 0]
     s.takesAccess .wrsFall .write 0 decodeZero ∧ s.coherent ∧ Queue.hasEntry s.queue 0 = true ∧ s.isFailed 0 = true ∧
       s.findBuffer 0 (0 / 64) = some 0) := by decide

theorem test_watchTriggersAreTheTableOfR149 :
    ({ Watch.afterReset with mask := 0x0F, compare := 0x35 } : Watch).triggers 0x14 = true ∧
    ({ Watch.afterReset with mask := 0x0F, compare := 0x35 } : Watch).triggers 0x15 = false ∧
    ({ Watch.afterReset with mask := 0x0F, compare := 0x35, polarity := .enter, lastMatch := false } : Watch).triggers 0x15
      = true := by decide

theorem test_hyp_WriteWithAMarkerBehindItsEntry :
    (let s := withTwoBuffers running failedBuffer (otherBuffer dirtyBuffer) [entry 0, .marker false, entry 1]
     s.takesAccess .wrsFall .write 0 decodeZero ∧ s.settled ∧ s.unwatched 0 ∧ s.findBuffer 0 (0 / 64) = some 0 ∧
       Queue.hasEntry s.queue 0 = true ∧ Queue.markerBehind s.queue 0 = true ∧
       s.buffers[(0 : Fin 16)].state = .failed) ∧
    (let s := withTwoBuffers running dirtyBuffer (otherBuffer failedBuffer)
       [entry 1, .marker false, entry 0, .marker false]
     s.takesAccess .wrsFall .write 0 decodeZero ∧ s.settled ∧ s.findBuffer 0 (0 / 64) = some 0 ∧
       Queue.markerBehind s.queue 0 = true ∧ s.blocked 0 = true) ∧
    (let s := withBuffer running dirtyBuffer [entry 0, .marker false]
     s.takesAccess .wrsFall .write 0 decodeZero ∧ s.coherent ∧ s.unwatched 0 ∧
       (∀ e : Fin 4, s.devices[e].state ≠ .absent) ∧ s.findBuffer 0 (0 / 64) = some 0 ∧
       Queue.hasEntry s.queue 0 = true ∧ Queue.markerBehind s.queue 0 = true ∧
       s.buffers[(0 : Fin 16)].state ≠ .failed ∧ s.blocked 0 = false) := by decide

theorem test_hyp_WriteThroughWriteWaitsForItsEntry :
    let s := withBuffer running dirtyBuffer [entry 0]
    s.takesAccess .wrsFall .write 0x1FF ⟨1, 1, 0x1FF, .writeThrough, 0⟩ ∧ s.coherent ∧ s.unwatched 0x1FF ∧
      (∀ e : Fin 4, s.devices[e].state ≠ .absent) ∧ Queue.hasEntry s.queue 1 = false ∧ s.queue ≠ [] ∧
      s.findBuffer 1 (0x1FF / 64) = none ∧ s.victim = some 1 := by decide

theorem test_hyp_ResynchronisingReadReturnsLastByte :
    running.takesAccess .rdsFall .read 0xFFFFF decodeTop ∧
    running.stream.context.all (fun c => !c.matches 0xFFFFF decodeTop) = true ∧
    (let s := streaming running 32766 32767 [] none
     s.takesAccess .rdsFall .read 0xFFFFF decodeTop ∧
       s.stream.context.all (fun c => !c.matches 0xFFFFF decodeTop) = true ∧
       s.stream.burst.all (fun u => s.requested .streamRead u.device) = true) ∧
    running.unreachable 3 = false ∧
    (let u : Burst := { device := 3, start := 32766, length := 2, spoiled := false }
     let s := withLink (streaming running 32766 32767 [] (some u)) (operation .streamRead 3 32766 2 1 0 .addressedRead)
     s.takesAccess .rdsFall .read 0xFFFFF decodeTop ∧ s.stream.burst = some u ∧ s.requested .streamRead 3 = false ∧
       s.stream.context.all (fun c => !c.matches 0xFFFFF decodeTop) = true) ∧
    (let u : Burst := { device := 3, start := 32766, length := 2, spoiled := false }
     let s := { streaming running 32766 32767 [] (some u) with requests := [⟨.streamRead, 3, 32766, 2⟩] }
     s.takesAccess .rdsFall .read 0xFFFFF decodeTop ∧
       s.stream.burst.all (fun u => s.requested .streamRead u.device) = true) := by decide

theorem test_hyp_ServedStreamReadAdvances :
    (let s := streaming running 32767 32767 [9] none
     s.takesAccess .rdsFall .read 0xFFFFF decodeTop ∧ s.settled ∧ s.stream.queue = 9 :: [] ∧
       s.stream.context.any (fun c => c.matches 0xFFFFF decodeTop && decide (c.address = c.limit)) = true) ∧
    (let s := streaming running 32767 40000 [9, 8] none
     s.takesAccess .rdsFall .read 0xFFFFF decodeTop ∧ s.settled ∧ s.stream.queue = 9 :: [8] ∧
       s.stream.context.any (fun c => c.matches 0xFFFFF decodeTop && decide (c.address ≠ c.limit)) = true ∧
       s.stream.burst = none ∧ s.stream.stall = none) ∧
    (let s := streaming running 32767 40000 [9] (some { device := 3, start := 32768, length := 15, spoiled := false })
     s.takesAccess .rdsFall .read 0xFFFFF decodeTop ∧ s.settled ∧ s.stream.queue = 9 :: [] ∧ s.stream.burst ≠ none ∧
       s.stream.context.any (fun c => c.matches 0xFFFFF decodeTop && decide (c.address ≠ c.limit)) = true) := by decide

theorem test_hyp_AccessEndsFromTheHostSide :
    (let s := withAccess running (access .read (some decodeZero) (.done .completed))
     s.resetHeld = false ∧ s.settled ∧ endsAccess s.straps.style .read .rdsRise = true) ∧
    (withAccess running (access .read (some decodeZero) (.pending .buffer))).port.access =
      some (access .read (some decodeZero) (.pending .buffer)) ∧
    endsAccess running.straps.style .read .ceRise = true ∧ endsAccess .enable .write .enFall = true ∧
    endsAccess .strobePair .write .rdsRise = false ∧ endsAccess .strobePair .write .wrsRise = true := by decide

/-- A read held on the fetch of buffer 0, which has not started; `valid` is what the buffer knows. -/
def heldOnFetch (valid : OffsetMap) : State :=
  withAccess
    { withBuffer running { cleanBuffer with valid := valid, fill := true } [] with requests := [⟨.pageFetch 0, 0, 0, 64⟩] }
    (access .read (some decodeZero) (.pending (.fetch 0)))

theorem test_hyp_AccessEndsFromTheHostSide_unstartedFetch :
    (heldOnFetch 0).settled ∧ (heldOnFetch 0).coherent ∧ (heldOnFetch 0).inStage 0 .fill = false ∧
    (heldOnFetch 0).requests.any (fun o => decide (o.kind = .pageFetch 0)) = true := by decide

theorem test_hyp_AccessEndsFromTheHostSide_unstartedFetchOfAKnownPage :
    (heldOnFetch 2).settled ∧ (heldOnFetch 2).coherent ∧ (heldOnFetch 2).inStage 0 .fill = false ∧
    (heldOnFetch 2).requests.any (fun o => decide (o.kind = .pageFetch 0)) = true := by decide

theorem test_hyp_AccessEndsFromTheHostSide_startedFetch :
    let s := withAccess (withLink { heldOnFetch 0 with requests := [] } (operation (.pageFetch 0) 0 0 64 1 0 .addressedRead))
      (access .read (some decodeZero) (.pending (.fetch 0)))
    s.settled ∧ s.requests.any (fun o => decide (o.kind = .pageFetch 0)) = false := by decide

theorem test_hyp_WaitDeadlineReleasesHwait :
    let s := withAccess running (access .write (some decodeZero) (.done (.refused .unmapped)))
    s.resetHeld = false ∧ s.settled ∧ s.now < (access .write (some decodeZero) (.done .completed)).waitDeadline := by
  decide

theorem test_hyp_HoldDeadlineRefuses :
    (withAccess running (access .read (some decodeZero) (.pending .buffer))).resetHeld = false ∧
    (access .read (some decodeZero) (.pending .buffer)).holdDeadline = some 1600000 ∧
    FaultRecord.empty.full = false ∧ ({ FaultRecord.empty with full := true } : FaultRecord).full = true := by decide

/-- A queue of two requests: a program of device 0 and a poll of device 1. -/
def requesting : State :=
  { withDevice running 1 programming with
    requests := [⟨.program 0, 0, 0, 1⟩, ⟨.poll, 1, 0, 0⟩] }

theorem test_hyp_ArbiterStartsItsChoice :
    requesting.resetHeld = false ∧ requesting.settled ∧ requesting.link = none ∧
    requesting.choose = some ⟨.poll, 1, 0, 0⟩ := by decide

theorem test_hyp_ArbiterTakesTheFirstItMayStart :
    requesting.choose = some ⟨.poll, 1, 0, 0⟩ ∧ (⟨.program 0, 0, 0, 1⟩ : Operation) ∈ requesting.requests ∧
    requesting.mayStart ⟨.program 0, 0, 0, 1⟩ = true ∧
    (withDevice running 3 (probed programming 160000)).mayStart ⟨.probeSelect, 3, 0, 0⟩ = false ∧
    (withDevice running 3 (probed programming 160000)).mayStart ⟨.poll, 3, 0, 0⟩ = false ∧
    (withDevice running 3 (probed stuck 160000)).mayStart ⟨.probeSelect, 3, 0, 0⟩ = true ∧
    (withTwoBuffers running dirtyBuffer (otherBuffer dirtyBuffer) [entry 1, entry 0]).rankOf ⟨.program 1, 1, 256, 1⟩ ≤
      (withTwoBuffers running dirtyBuffer (otherBuffer dirtyBuffer) [entry 1, entry 0]).rankOf ⟨.program 0, 0, 0, 1⟩ := by
  decide

theorem test_hyp_SentBytesSpellTheTransfer :
    let s : State := { running with transmit := running.transmit.set 3 (some ⟨131071, [7]⟩) }
    (⟨.program 0, 3, 131071, 1⟩ : Operation).start < 131072 ∧ s.transmit[(3 : Fin 4)] = some ⟨131071, [7]⟩ ∧
      running.transmit[(3 : Fin 4)] = none := by decide

/-- A CLEAN buffer of device 0 page 0 that knows nothing yet, its fetch on the link. -/
def fetching : State :=
  withLink (withBuffer running { PageBuffer.freed with state := .clean, tag := some ⟨0, 0⟩, fill := true } []) fetchZero

theorem test_hyp_PageFetchMergesAndAnswers :
    (let s := withAccess fetching (access .read (some decodeZero) (.pending (.fetch 0)))
     s.inService ∧ s.runs fetchZero (.pageFetch 0) ∧ fetchZero.hasRequester = true) ∧
    fetching.inService ∧ fetching.runs fetchZero (.pageFetch 0) ∧ fetching.waiting = none ∧
    fetching.devices[fetchZero.operation.device].state ≠ .absent := by decide

theorem test_hyp_TransferErrorIsRetried :
    fetching.resetHeld = false ∧ fetching.settled ∧ fetching.link = some fetchZero ∧
    fetchZero.operation.kind ≠ .poll ∧ fetchZero.operation.kind ≠ .probeSelect ∧
    3 < sentCount fetchZero.form fetchZero.operation.length ∧ fetchZero.attempts < 3 := by decide

theorem test_hyp_ThirdTransferErrorFailsTheOperation :
    let l := operation .streamRead 0 0 16 3 2 .addressedRead
    (withLink running l).inService ∧ (withLink running l).link = some l ∧ l.operation.kind ≠ .poll ∧
      l.operation.kind ≠ .probeSelect ∧ 3 < sentCount l.form l.operation.length ∧ l.attempts = 3 ∧
      l.selectErrors = 2 ∧ (withLink running l).devices[l.operation.device].state = .ready := by decide

/-- The third attempt of a commit's operation, at a stage of the commit. -/
def lastAttempt (k : OperationKind) (x : PageBuffer) : State :=
  withLink (withBuffer running x [entry 0]) (operation k 0 0 (if k = .pageFetch 0 then 64 else 1) 3 2
    (if k = .program 0 then .program else .addressedRead))

theorem test_hyp_ThirdTransferErrorFailsTheOperation_requesters :
    (∀ attempts : Fin 3, ∀ p ∈ [(OperationKind.pageFetch 0, Stage.fill), (.program 0, .send), (.checkRead 0, .check)],
      let x := if p.2 = .fill then { dirtyBuffer with state := .committing, stage := some .fill, attempts := attempts, fill := true }
        else committingBuffer p.2 attempts true
      (lastAttempt p.1 x).waiting = none ∧ (lastAttempt p.1 x).coherent ∧
        p.1.servedBuffer = some 0 ∧ (lastAttempt p.1 x).deviceOfBuffer 0 = some 0 ∧
        (lastAttempt p.1 x).inStage 0 p.2 = true ∧
        (lastAttempt p.1 x).link.all (fun l => decide (l.attempts = 3 ∧ l.selectErrors = 2)) = true) ∧
    (let a := access .read (some decodeZero) (.pending (.fetch 0))
     (withAccess fetching a).port.access = some a ∧ fetchZero.hasRequester = true) ∧
    (∀ spoiled : Bool,
      let u : Burst := { device := 3, start := 32767, length := 1, spoiled := spoiled }
      let l := operation .streamRead 3 32767 1 3 0 .addressedRead
      let s := withLink { running with stream := { running.stream with burst := some u } } l
      s.stream.burst = some u ∧ s.stream.context = none ∧ s.waiting = none ∧
        (withAccess s (access .read (some decodeTop) (.pending .streamByte))).waiting = some .streamByte) := by decide

theorem test_hyp_ProgramCompletionMakesDeviceProgramming :
    let l := operation (.program 0) 0 0 1 1 0 .program
    let s := withLink (withBuffer running (committingBuffer .send 0 false) [entry 0]) l
    s.inService ∧ s.runs l (.program 0) ∧ s.inStage 0 .send = true ∧
      s.devices[l.operation.device].state ≠ .absent := by decide

theorem test_hyp_PollsAreAnswered :
    (let s := withDevice running 0 programming
     s.resetHeld = false ∧ s.settled ∧ s.devices[(0 : Fin 4)].pollDue = some 4000) ∧
    (let s := withLink (withDevice running 0 programming) pollZero
     s.inService ∧ s.devicesGood ∧ s.settled ∧ s.runs pollZero .poll ∧
       s.devices[pollZero.operation.device].state = .programming) ∧
    (let s := withLink (withDevice running 0 stuck) pollZero
     s.inService ∧ s.devicesGood ∧ s.settled ∧ s.runs pollZero .poll ∧
       s.devices[pollZero.operation.device].state = .stuck ∧
       s.devices[pollZero.operation.device].probe = none) := by decide

theorem test_hyp_PollAcknowledgeEndsBusy :
    ∀ verify : Bool,
      let s := withLink (withBuffer (withDevice running 0 programming) (committingBuffer .busy 0 verify) [entry 0]) pollZero
      s.inService ∧ s.runs pollZero .poll ∧ s.devices[pollZero.operation.device].state = .programming ∧
        s.committingIn pollZero.operation.device .busy = some 0 ∧
        s.buffers[(0 : Fin 16)].sent = some ⟨0, 1, verify⟩ ∧ s.buffers[(0 : Fin 16)].tag = some ⟨0, 0⟩ ∧
        s.waiting = none ∧ s.part = .running ∧ s.buffers[(0 : Fin 16)].dirty = 0 := by decide

/-- A write of 9 to host address 0, PENDING. -/
def heldWrite (p : Policy) (w : Wait) : Access :=
  { access .write (some { decodeZero with policy := p }) (.pending w) with writeByte := some 9 }

theorem test_hyp_PollAcknowledgeEndsBusy_waiters :
    ∀ a ∈ [heldWrite .writeBack (.crossGeneration 0), heldWrite .writeThrough (.crossGeneration 0),
        heldWrite .writeThrough (.entry 0)],
      let s := withAccess
        (withLink (withBuffer (withDevice running 0 programming) (committingBuffer .busy 0 false) [entry 0]) pollZero) a
      s.inService ∧ s.runs pollZero .poll ∧ s.committingIn 0 .busy = some 0 ∧ s.port.access = some a ∧
        a.direction = .write ∧ a.writeByte = some 9 ∧ a.decode.any (fun d => decide (d.address = 0)) = true ∧
        s.findBuffer 0 (0 / 64) = some 0 := by decide

/-- A COMMITTING buffer of device 0 page 0 whose second byte was rewritten during the commit. -/
def rewrittenBuffer (stage : Stage) : PageBuffer := { committingBuffer stage 2 false with valid := 3, dirty := 2 }

theorem test_hyp_PollAcknowledgeEndsBusy_rewritten :
    let s := withLink (withBuffer (withDevice running 0 programming) (rewrittenBuffer .busy) [.buffer 0 false true]) pollZero
    s.inService ∧ s.coherent ∧ s.runs pollZero .poll ∧ s.committingIn 0 .busy = some 0 ∧ s.waiting = none ∧
      s.buffers[(0 : Fin 16)].dirty ≠ 0 ∧ Queue.pushed s.queue 0 = true ∧ s.part = .running ∧
      Queue.markerBefore s.queue 0 = false ∧ ∀ b : Fin 16, b ≠ 0 → s.deviceOfBuffer b ≠ s.deviceOfBuffer 0 := by decide

/-- Every buffer but buffer 0, which is in BUSY, is FAILED, and an access waits for a buffer. -/
def fullPool (a : Access) : State :=
  withAccess
    { withDevice running 2 programming with
      buffers := Vector.ofFn fun b =>
        { (if b = 0 then committingBuffer .busy 0 false else failedBuffer) with tag := some ⟨2, b⟩ }
      recency := List.finRange 16
      queue := (List.finRange 16).map entry
      link := some (operation .poll 2 0 0 1 0 .selectOnly) } a

theorem test_hyp_PollAcknowledgeEndsBusy_fullPool :
    ∀ a ∈ [access .read (some decodeZero) (.pending .buffer), heldWrite .writeBack .buffer],
      (fullPool a).inService ∧ (fullPool a).coherent ∧ (fullPool a).victim = none ∧ (fullPool a).port.access = some a ∧
        a.status = .pending .buffer ∧ (fullPool a).findBuffer 0 (0 / 64) = none ∧ (fullPool a).unreachable 0 = false ∧
        (fullPool a).committingIn 2 .busy = some 0 ∧ (fullPool a).buffers[(0 : Fin 16)].sent = some ⟨0, 1, false⟩ ∧
        (fullPool a).buffers[(0 : Fin 16)].dirty = 0 ∧ (fullPool a).buffers[(0 : Fin 16)].fill = false := by decide

theorem test_hyp_ProgramTimeoutFailsTheBuffer :
    (let s := withBuffer (withDevice running 0 programming) (committingBuffer .busy 0 false) [entry 0]
     s.inService ∧ s.coherent ∧ s.devices[(0 : Fin 4)].state = .programming ∧
       s.devices[(0 : Fin 4)].timeout = some 160000 ∧ s.committingIn 0 .busy = some 0 ∧ s.waiting = none ∧
       (withAccess s (heldWrite .writeBack (.crossGeneration 0))).coherent ∧
       (withAccess s (heldWrite .writeThrough (.entry 0))).coherent) ∧
    (let s := fullPool (access .read (some decodeZero) (.pending .buffer))
     s.coherent ∧ s.devices[(2 : Fin 4)].timeout = some 160000 ∧ s.committingIn 2 .busy = some 0 ∧
       ∀ b : Fin 16, b ≠ 0 → s.buffers[b].state = .failed) := by decide

theorem test_hyp_CheckReadDecidesTheCommit :
    let l := operation (.checkRead 0) 0 0 1 1 0 .addressedRead
    ∀ attempts : Fin 3,
      let s := withLink (withBuffer running (committingBuffer .check attempts true) [entry 0]) l
      s.inService ∧ s.coherent ∧ s.runs l (.checkRead 0) ∧ s.inStage 0 .check = true ∧ s.waiting = none ∧
        s.devices[l.operation.device].state = .ready ∧ s.deviceOfBuffer 0 = some l.operation.device ∧
        s.buffers[(0 : Fin 16)].agrees 0 (Vector.replicate 64 0) = true ∧ s.buffers[(0 : Fin 16)].dirty = 0 ∧
        s.buffers[(0 : Fin 16)].agrees 0 (Vector.replicate 64 1) = false ∧
        (withAccess s (heldWrite .writeBack (.crossGeneration 0))).coherent ∧
        (withAccess s (heldWrite .writeThrough (.entry 0))).coherent := by decide

theorem test_hyp_CheckReadDecidesTheCommit_rewritten :
    let l := operation (.checkRead 0) 0 0 1 1 0 .addressedRead
    let s := withLink (withBuffer running (rewrittenBuffer .check) [.buffer 0 false true]) l
    s.inService ∧ s.coherent ∧ s.runs l (.checkRead 0) ∧ s.inStage 0 .check = true ∧
      s.devices[l.operation.device].state = .ready ∧ s.deviceOfBuffer 0 = some l.operation.device ∧ s.waiting = none ∧
      s.buffers[(0 : Fin 16)].agrees 0 (Vector.replicate 64 0) = true ∧ s.buffers[(0 : Fin 16)].dirty ≠ 0 ∧
      Queue.pushed s.queue 0 = true := by decide

theorem test_hyp_BurstFillsTheStreamQueue :
    ∀ spoiled : Bool,
      let u : Burst := { device := 3, start := 32767, length := 1, spoiled := spoiled }
      let l := operation .streamRead 3 32767 1 1 0 .addressedRead
      let s := withLink (streaming running 32767 32767 [] (some u)) l
      s.inService ∧ s.runs l .streamRead ∧ s.stream.burst = some u ∧ s.waiting = none ∧ s.part = .running ∧
        s.stream.context ≠ none ∧ s.stream.stall = none ∧
        s.devices[l.operation.device].state ≠ .absent ∧
        (withAccess s (access .read (some decodeTop) (.pending .streamByte))).waiting = some .streamByte ∧
        s.placedBytes u (Vector.replicate 16 6) = 6 :: [] ∧
        (withLink { running with stream := { running.stream with burst := some u } } l).stream.context = none := by decide

theorem test_hyp_ProbeGoesOnOrEndsReady :
    let s := withDevice running 0 (probed Device.afterReset 160000)
    s.resetHeld = false ∧ s.settled ∧ s.devices[(0 : Fin 4)].probe = some ⟨160000, 0⟩ ∧
      (withLink s selectZero).inService ∧ (withLink s selectZero).settled ∧
      (withLink s selectZero).runs selectZero .probeSelect ∧ max s.now selectZero.endTime < 160000 := by decide

theorem test_hyp_ProbeThatFailsMakesDeviceAbsent :
    let s := withDevice running 0 (probed stuck 0)
    s.inService ∧ s.waiting = none ∧ s.devices[(0 : Fin 4)].probe = some ⟨0, 0⟩ ∧
      s.onLink .probeSelect 0 = false ∧ s.devices[(0 : Fin 4)].state ≠ .absent ∧
      (withLink s selectZero).inService ∧ (withLink s selectZero).runs selectZero .probeSelect ∧
      selectZero.operation.device = 0 ∧ 0 ≤ max s.now selectZero.endTime := by decide

/-- Device 0 with a probe past its deadline. -/
def failingProbe (s : State) : State := withDevice s 0 (probed { Device.afterReset with state := .ready } 0)

theorem test_hyp_ProbeThatFailsMakesDeviceAbsent_heldReads :
    (let s := failingProbe (heldOnFetch 0)
     s.inService ∧ s.devices[(0 : Fin 4)].probe = some ⟨0, 0⟩ ∧ s.onLink .probeSelect 0 = false ∧
       s.port.access = some (access .read (some decodeZero) (.pending (.fetch 0))) ∧
       (⟨.pageFetch 0, 0, 0, 64⟩ : Operation) ∈ s.requests) ∧
    (let u : Burst := { device := 0, start := 0, length := 16, spoiled := false }
     let a := access .read (some { decodeZero with policy := .stream }) (.pending .streamByte)
     let s := withAccess
       { failingProbe running with requests := [⟨.streamRead, 0, 0, 16⟩], stream := { running.stream with burst := some u } } a
     s.inService ∧ s.port.access = some a ∧ (⟨.streamRead, 0, 0, 16⟩ : Operation) ∈ s.requests ∧ s.stream.burst ≠ none) := by
  decide

theorem test_hyp_ProbeThatFailsMakesDeviceAbsent_waitingWrites :
    let s := failingProbe (withBuffer running dirtyBuffer [.buffer 0 false true])
    s.inService ∧ s.part = .running ∧ s.coherent ∧ s.deviceOfBuffer 0 = some 0 ∧ s.buffers[(0 : Fin 16)].state = .dirty ∧
      Queue.pushed s.queue 0 = true ∧ Queue.markerBefore s.queue 0 = false ∧
      (withAccess s (heldWrite .writeThrough (.entry 0))).coherent ∧
      (withAccess s (heldWrite .writeBack (.crossGeneration 0))).coherent := by decide

/-- Start-up with the probe select of device 0, the last in progress, on the link. -/
def lastProbe : State :=
  withLink { State.reset with
    devices := (Vector.replicate 4 Device.afterReset).set 0 (probed Device.afterReset 160000) } selectZero

theorem test_hyp_LastProbeRequestsTheDescriptor :
    lastProbe.resetHeld = false ∧ lastProbe.part = .starting ∧ lastProbe.startup.phase = .probe ∧
    lastProbe.queue = [] ∧ lastProbe.requests = [] ∧ lastProbe.waiting = none ∧
    lastProbe.runs selectZero .probeSelect ∧
    ∀ d : Fin 4, d ≠ selectZero.operation.device → lastProbe.devices[d].probe = none := by decide

/-- Start-up with the probe of device `d`, past its deadline, the last in progress, and device 0 in a state otherwise. -/
def lateProbe (d : Fin 4) (x : Device) : State :=
  { State.reset with
    devices := ((Vector.replicate 4 Device.afterReset).set 0 x).set d (probed Device.afterReset 0) }

theorem test_hyp_LastProbeRequestsTheDescriptor_withoutAcknowledge :
    ∀ d : Fin 4, ∀ x ∈ [Device.afterReset, { Device.afterReset with state := .ready }],
      (lateProbe d x).resetHeld = false ∧ (lateProbe d x).part = .starting ∧ (lateProbe d x).startup.phase = .probe ∧
      (lateProbe d x).startup.store = none ∧ (lateProbe d x).queue = [] ∧ (lateProbe d x).requests = [] ∧
      (lateProbe d x).waiting = none ∧ (lateProbe d x).devices[d].probe = some ⟨0, 0⟩ ∧
      (∀ e : Fin 4, e ≠ d → (lateProbe d x).devices[e].probe = none) ∧
      (lateProbe d x).onLink .probeSelect d = false ∧ (lateProbe d x).onLink .descriptorRead 0 = false ∧
      (lateProbe d x).devices[d].state = .absent ∧
      (withLink (lateProbe d x) (operation .probeSelect d 0 0 1 0 .selectOnly)).runs
        (operation .probeSelect d 0 0 1 0 .selectOnly) .probeSelect ∧
      (d ≠ 0 → (lateProbe d x).devices[(0 : Fin 4)].state = x.state) := by decide

/-- Start-up with the descriptor read on the link. -/
def readingDescriptor (x : SupplyState) : State :=
  withLink { State.reset with
    startup := { phase := .read, store := none, outcome := none }
    supply := { State.reset.supply with state := x }
    devices := Vector.replicate 4 { Device.afterReset with state := .ready } }
    (operation .descriptorRead 0 Config.descriptorAddress 64 1 0 .addressedRead)

/-- A descriptor with no region record and the default settings. -/
def descriptor : PageBytes :=
  Vector.ofFn fun i =>
    (([0x4B, 0x4C, 1, 0] ++ List.replicate 48 0 ++ [0xFF, 2, 100, 4, 10, 0xAA, 0xFF, 0xFF, 0, 0, 4, 0xB3] :
      List Byte)[i.val]?).getD 0

theorem test_goodDescriptorIsInstalled :
    startupDecision (some descriptor) = (.good, { Configuration.defaults with regions := Vector.replicate 8 Region.cleared }) ∧
    startupDecision (some (descriptor.set 63 0)) = (.defaultsFlagged, Configuration.defaults) ∧
    startupDecision (some (descriptor.set 0 0)) = (.defaults, Configuration.defaults) ∧
    startupDecision none = (.defaults, Configuration.defaults) := by decide

theorem test_hyp_DescriptorReadEndsStartup :
    let l := operation .descriptorRead 0 Config.descriptorAddress 64 1 0 .addressedRead
    (readingDescriptor .low).resetHeld = false ∧ (readingDescriptor .low).part = .starting ∧
      (readingDescriptor .low).startup.phase = .read ∧ (readingDescriptor .low).queue = [] ∧
      (readingDescriptor .low).requests = [] ∧ (readingDescriptor .low).waiting = none ∧
      (readingDescriptor .low).runs l .descriptorRead ∧ (readingDescriptor .normal).runs l .descriptorRead ∧
      (readingDescriptor .low).startup.store = none ∧ (readingDescriptor .low).stream.context = none ∧
      3 < sentCount l.form l.operation.length := by decide

theorem test_hyp_DescriptorReadEndsStartup_handOff :
    let a := access .write none (.pending .handOff)
    (withAccess (readingDescriptor .normal) a).waiting = some .handOff ∧
    ({ readingDescriptor .normal with regions := Configuration.defaults.regions } : State).decode a.address =
      some { decodeZero with policy := .writeThrough } ∧
    ({ readingDescriptor .normal with regions := Vector.replicate 8 Region.cleared } : State).decode a.address = none ∧
    descriptor[0] = 0x4B ∧ descriptor[1] = 0x4C ∧ descriptor[2] = 1 := by decide

theorem test_hyp_DescriptorReadEndsStartup_checks :
    descriptorPasses descriptor ∧ ¬ descriptorPasses (descriptor.set 63 0) :=
  ⟨⟨by decide, by decide, by decide, fun k hk => absurd (show k.val < 0 from hk) (Nat.not_lt_zero _),
    fun k hk => absurd (show k.val < 0 from hk) (Nat.not_lt_zero _),
    fun _ k _ hk => absurd (show k.val < 0 from hk) (Nat.not_lt_zero _)⟩, fun h => absurd h.1 (by decide)⟩

theorem test_hyp_EligibleEntryStartsItsCommit :
    ∀ known : Bool,
      let x := { dirtyBuffer with
        valid := if known then 1 else 5#64, dirty := if known then 1 else 5#64 }
      let s := withBuffer running x [.buffer 0 true false]
      s.inService ∧ s.part = .running ∧ s.waiting = none ∧ s.nearestEligible 0 = some 0 ∧
        s.buffers[(0 : Fin 16)].tag = some ⟨0, 0⟩ ∧ spanKnown x.dirty x.valid = known := by decide

theorem test_hyp_EligibleEntryStartsItsCommit_holdup :
    let s := { withBuffer holdup dirtyBuffer [entry 0] with supply := { holdup.supply with count := 1 } }
    s.inService ∧ s.part = .holdup ∧ s.waiting = none ∧ s.nearestEligible 0 = some 0 ∧
      s.buffers[(0 : Fin 16)].tag = some ⟨0, 0⟩ ∧
      spanKnown s.buffers[(0 : Fin 16)].dirty s.buffers[(0 : Fin 16)].valid = true ∧
      ∀ b : Fin 16, b ≠ 0 → Queue.hasEntry s.queue b = false := by decide

theorem test_hyp_AbsentHandoverFailsTheBuffer :
    let s := withBuffer (withDevice running 0 Device.afterReset) dirtyBuffer [.buffer 0 false true]
    s.inService ∧ s.meetsButForDevice 0 = true := by decide

theorem test_hyp_AgeDeadlineGivesAged :
    let s := withBuffer running { dirtyBuffer with ageDeadline := some 16000 } [entry 0]
    s.inService ∧ s.waiting = none ∧ s.buffers[(0 : Fin 16)].ageDeadline = some 16000 ∧
      Queue.hasEntry s.queue 0 = true := by decide

theorem test_hyp_FlushreqEdges :
    (running.inService ∧ running.waiting = none ∧ running.flushreqLow = false ∧ running.dirtyLine = false) ∧
    (withBuffer running dirtyBuffer [entry 0]).dirtyLine = true ∧
    (withBuffer running failedBuffer [entry 0]).dirtyLine = true ∧
    ({ running with flushreqLow := true } : State).settled := by decide

theorem test_flushOfFailedEntriesIsDoneAtOnce :
    (match exec .flushreqFall (withBuffer running failedBuffer [entry 0]) with
      | .next t => (t.queue, t.flagSet .flushDone)
      | _ => ([], false)) = ([entry 0, .marker false], true) := by decide

theorem test_flushOfADirtyEntryIsPending :
    (match exec .flushreqFall
        (withBuffer (withDevice running 0 programming) dirtyBuffer [entry 0]) with
      | .next t => (t.queue, t.flagSet .flushDone)
      | _ => ([], true)) = ([entry 0, .marker true], false) := by decide

theorem test_hyp_SupplyCrossings :
    ∀ x ∈ [SupplyState.normal, .sagPending, .low, .recoverPending],
      ({ running with supply := { running.supply with state := x } } : State).resetHeld = false ∧
      ({ running with supply := { running.supply with state := x } } : State).settled := by decide

/-- The supply below the warning level, its filter about to expire. -/
def sagging (s : State) : State := { s with supply := ⟨.sagPending, some 16000, none, 4⟩ }

/-- The supply above the recovery level, its filter about to expire. -/
def recovering (s : State) : State := { s with supply := ⟨.recoverPending, none, some 16000, 4⟩ }

theorem test_hyp_FilterExpiriesMoveThePart :
    (sagging running).inService ∧ (sagging running).supply.state = .sagPending ∧
    (withAccess (sagging running) (access .read (some decodeZero) (.pending (.fetch 0)))).part = .running ∧
    (sagging State.reset).settled ∧ (sagging State.reset).part = .starting ∧
    (recovering holdup).inService ∧ (recovering holdup).part = .holdup ∧
    (recovering State.reset).settled ∧ (recovering State.reset).part ≠ .holdup ∧
    (let s := sagging { withBuffer running { dirtyBuffer with state := .committing, stage := some .fill, fill := true }
        [entry 0] with settings := { Settings.defaults with budget := 0 } }
     s.inService ∧ s.part = .running ∧ s.settings.budget = 0 ∧ s.inStage 0 .fill = true) := by decide

/-- `running` with a management transaction in a state. -/
def withTransaction (x : Transaction) : State := { running with management := { running.management with transaction := x } }

theorem test_hyp_TransactionBytes :
    ∀ x ∈ [Transaction.idle, .addressedWrite false, .addressedWrite true, .addressedRead false, .addressedRead true],
      (withTransaction x).resetHeld = false ∧ (withTransaction x).settled ∧
      (withTransaction x).management.transaction = x := by decide

theorem test_hyp_TransactionBytes_repeatedStart :
    (withShadow running (commandShadow 5 0)).resetHeld = false ∧
    (withShadow running (commandShadow 5 0)).management.transaction = .addressedWrite true ∧
    (withShadow running (commandShadow 5 0)).pendingShadow = some (commandShadow 5 0) := by decide

theorem test_hyp_TransactionEndAppliesOrCloses :
    (withTransaction (.addressedWrite true)).settled ∧ (withTransaction (.addressedWrite true)).pendingShadow = none ∧
    (withShadow running (commandShadow 2 0)).pendingShadow = some (commandShadow 2 0) := by decide

/-- A shadow of region entry 7. -/
def regionShadow (r : Region) : Shadow := shadowOf 7 r.toBytes

theorem test_hyp_RegionApplyIsGuarded :
    let last := region 0 1 .writeBack
    (∀ r ∈ [{ last with hostBase := 16376, deviceBase := 8 }, { last with hostBase := 16383 },
        { last with hostBase := 3, deviceBase := 8 }, { last with enabled := false }],
      (withShadow running (regionShadow r)).settled ∧
      (withShadow running (regionShadow r)).applies (regionShadow r) (.region 7)) ∧
    running.checkRegion 7 (regionShadow { last with hostBase := 16376 }).bytes =
      .ok { last with hostBase := 16376 } ∧
    running.checkRegion 7 (regionShadow { last with hostBase := 16383 }).bytes = .error .range ∧
    running.checkRegion 7 (regionShadow { last with hostBase := 3 }).bytes = .error .overlap ∧
    running.checkRegion 7 (Vector.replicate 8 0) = .error .value ∧
    (withBuffer running dirtyBuffer [entry 0]).checkRegion 0 (region 0 1 .writeBack).toBytes = .error .busyRegion ∧
    (∀ n : Fin 8, regionValueFails running.regions[n].toBytes ↔ running.regions[n].pageCount = 0) ∧
    (region 0 1 .writeBack).inRange := by
  decide

theorem test_hyp_WatchApplyArms :
    (withShadow running (shadowOf 15 #v[0x10, 0, 0, 0, 0, 0, 0, 0])).settled ∧
    (withShadow running (shadowOf 15 #v[0x10, 0, 0, 0, 0, 0, 0, 0])).applies
      (shadowOf 15 #v[0x10, 0, 0, 0, 0, 0, 0, 0]) (.watch 7) ∧
    Watch.ofBytes #v[0x10, 0, 0, 0, 0, 0, 0, 0] = none ∧
    Watch.ofBytes #v[0x0F, 0xFF, 0xFF, 0, 0, 0x81, 0, 0] =
      some { Watch.afterReset with enabled := true, address := 0xFFFFF, polarity := .enter, lastMatch := false } := by decide

theorem test_hyp_SettingsApplyIsWhole :
    let x := shadowOf 17 (Settings.defaults.toBytes (Vector.replicate 4 .pages2048))
    (withShadow running x).inService ∧ (withShadow running x).settled ∧ (withShadow running x).applies x .settings ∧
      (withShadow holdup x).inService ∧ (withShadow holdup x).settled ∧
      running.checkSettings x.bytes = .ok (Settings.defaults, Vector.replicate 4 .pages2048) ∧
      running.checkSettings (x.bytes.set 4 0) = .error .value := by decide

theorem test_hyp_SettingsApplyIsWhole_capacities :
    let small : Vector Capacity 4 := Vector.replicate 4 .pages512
    let bytes := Settings.defaults.toBytes small
    let noRegion : State := { running with regions := Vector.replicate 8 Region.cleared }
    running.checkSettings bytes = .ok (Settings.defaults, small) ∧
      ({ running with regions := running.regions.set 0 { region 509 0 .writeBack with pageCount := 4 } } : State).checkSettings
        bytes = .error .range ∧
      (withBuffer noRegion dirtyBuffer [entry 0]).checkSettings bytes = .error .busyRegion ∧
      (withAccess noRegion (access .read (some decodeTop) (.pending .streamByte))).checkSettings bytes = .error .busyRegion ∧
      (let s := withShadow (withBuffer noRegion { cleanBuffer with tag := some ⟨3, 512⟩ } []) (shadowOf 17 bytes)
       s.inService ∧ s.settled ∧ s.applies (shadowOf 17 bytes) .settings ∧ s.waiting = none ∧ s.recency.Nodup ∧
         s.checkSettings bytes = .ok (Settings.defaults, small) ∧ s.buffers[(0 : Fin 16)].state = .clean ∧
         s.devices[(3 : Fin 4)].capacity ≠ small[(3 : Fin 4)] ∧ small[(3 : Fin 4)].pages ≤ 512) := by decide

theorem test_hyp_RecordApplies :
    ∀ p ∈ [(shadowOf 18 (Vector.replicate 8 0xFF), ApplyKind.eventFlagClear),
        (shadowOf 19 (Vector.replicate 8 0), .faultRecordEmpty), (shadowOf 30 (Vector.replicate 8 0), .readOnly),
        ({ commandShadow 1 9 with written := 2 }, .argumentStore), (commandShadow 7 0, .unknown)],
      (withShadow running p.1).resetHeld = false ∧ (withShadow running p.1).settled ∧
      (withShadow running p.1).applies p.1 p.2 := by decide

theorem test_hyp_BarrierAndFlushCommands :
    let s := withBuffer running dirtyBuffer [entry 0]
    (withShadow s (commandShadow 2 0)).settled ∧ (withShadow s (commandShadow 2 0)).applies (commandShadow 2 0) .barrier ∧
      (withShadow s (commandShadow 1 0)).inService ∧ (withShadow s (commandShadow 1 0)).waiting = none ∧
      (withShadow s (commandShadow 1 0)).applies (commandShadow 1 0) .flush ∧ s.dirtyLine = true := by decide

theorem test_hyp_RetryAndDiscardCommands :
    let s := withBuffer running failedBuffer [entry 0]
    ∀ p ∈ [(commandShadow 3 0, ApplyKind.retry), (commandShadow 4 0, .discard), (commandShadow 3 16, .retry),
        (commandShadow 4 255, .discard)],
      (withShadow s p.1).inService ∧ (withShadow s p.1).settled ∧ (withShadow s p.1).applies p.1 p.2 ∧
        (withShadow s p.1).coherent ∧ (withShadow s p.1).waiting = none ∧
        s.buffers[(0 : Fin 16)].state = .failed ∧ s.buffers[(0 : Fin 16)].tag = some ⟨0, 0⟩ ∧
        s.devices[(0 : Fin 4)].state ≠ .absent ∧
        ((s.management.taken p.1).argument.toNat = 0 ∨ 16 ≤ (s.management.taken p.1).argument.toNat) := by decide

theorem test_hyp_RetryAndDiscardCommands_absentDevice :
    let s := withShadow (withBuffer (withDevice running 0 Device.afterReset) failedBuffer [entry 0]) (commandShadow 3 0)
    s.inService ∧ s.coherent ∧ s.waiting = none ∧ s.applies (commandShadow 3 0) .retry ∧
      s.buffers[(0 : Fin 16)].state = .failed ∧ s.devices[(0 : Fin 4)].state = .absent := by decide

theorem test_hyp_DropCleanFreesCleanBuffers :
    let s := withShadow (withBuffer running cleanBuffer []) (commandShadow 5 0)
    s.inService ∧ s.coherent ∧ s.waiting = none ∧ s.applies (commandShadow 5 0) .dropClean ∧
      s.buffers[(0 : Fin 16)].state = .clean ∧ s.buffers[(0 : Fin 16)].fill = false := by decide

theorem test_hyp_ReprobeCommandStartsAProbe :
    (let s := withShadow running (commandShadow 6 3)
     s.inService ∧ s.settled ∧ s.applies (commandShadow 6 3) .reprobe ∧
       (s.management.taken (commandShadow 6 3)).argument.toNat = 3 ∧ s.deviceCommitting 3 = false ∧
       s.devices[(3 : Fin 4)].probe = none) ∧
    (let s := withShadow running (commandShadow 6 4)
     s.inService ∧ s.settled ∧ s.applies (commandShadow 6 4) .reprobe ∧
       (s.management.taken (commandShadow 6 4)).argument.toNat = 4) := by decide

theorem test_hyp_EntriesReadAsTheFormatsSay :
    (({ Region.cleared with hostBase := 16383, pageCount := 16384, deviceBase := 2047, wait := 15, ageCode := 15 } :
      Region).inRange ∧ Region.cleared.inRange ∧ Settings.defaults.inRange) ∧
    (∀ n : Fin 8, running.regions[n].inRange) ∧ running.settings.inRange ∧ running.queue.length ≤ 32 ∧
    (∀ b : Fin 16, (withBuffer running failedBuffer [entry 0]).buffers[b].fitsState = true ∧
      (withBuffer running failedBuffer [entry 0]).buffers[b].tag.all (·.page < 2048) = true) := by decide

theorem test_statusBytesOfAFailedBuffer :
    (withBuffer running { failedBuffer with tag := some ⟨3, 2047⟩ } [entry 0]).entryReads 21 [52, 199, 255, 0, 0, 0, 0, 255] :=
  by decide

theorem test_evtLineFollowsEnabledFlags :
    ({ running with flags := 0x8000 } : State).evtLow = true ∧
    ({ running with flags := 0x8000, settings := { running.settings with eventEnable := 0x7FFF } } : State).evtLow = false :=
  by decide

theorem test_hyp_StepKeepsTheInvariants :
    let s : State := { withBuffer running dirtyBuffer [entry 0] with pending := [.ageDeadline 0] }
    s.configured ∧ s.coherent ∧ s.stream.good = true ∧ s.devicesGood ∧ s.settled ∧ State.reset.part = .starting ∧
      State.reset.streamIdleInStarting := by decide

theorem test_hyp_CommandsLeaveOtherBlocksAlone :
    running.inService ∧ running.waiting = none ∧ commandClass .pollAcknowledge = .pageLink none ∧
    (withLink running pollZero).inService ∧
    (withLink running pollZero).link.map (·.operation.device) = some (0 : Fin 4) ∧
    (withLink running pollZero).waiting = none ∧ keepsBytes .pollAcknowledge = true := by decide

/-- The longest queue there is. -/
theorem test_longestQueueIsCanonical :
    Queue.canonical ((List.finRange 16).flatMap fun b => [entry b, .marker (decide (b = 15))]) := by decide

end Sys2Proof.Tests
end

section
/-! PROOFS. The host bus rows: what a command does while reset is held and on a settled state, what an ended access keeps
the Port from, and the access's start, end and deadlines (01 sections 1.1 to 1.4, R16). -/
namespace Sys2Proof.Machine

/-! ### A command's frame: `act`, and the events that change nothing -/

/-- While reset is held a command has no effect (R16). -/
theorem State.act_of_held {s : State} (h : s.resetHeld = true) (f : State → State) : s.act f = .next s := by
  simp [State.act, h]

theorem State.act_of_released {s : State} (h : s.resetHeld = false) (f : State → State) :
    s.act f = .next ((f s).conclude s) := by
  simp [State.act, h]

/-- A command whose effect is empty leaves a settled state as it is. -/
theorem State.act_of_unchanged {s : State} {f : State → State} (hs : s.settled) (hf : f s = s) :
    s.act f = .next s := by
  unfold State.act
  split
  · rfl
  · rw [hf, State.conclude_of_settled hs (by cases s.shortCondition <;> simp)]

/-! ### What the Port waits on -/

@[simp] theorem State.waiting_of_noAccess {s : State} (h : s.port.access = none) : s.waiting = none := by
  simp [State.waiting, h]

theorem State.waiting_of_pending {s : State} {a : Access} {w : Wait} (h : s.port.access = some a)
    (ha : a.status = .pending w) : s.waiting = some w := by
  simp [State.waiting, h, ha]

theorem State.waiting_of_done {s : State} {a : Access} {o : AccessOutcome} (h : s.port.access = some a)
    (ha : a.status = .done o) : s.waiting = none := by
  simp [State.waiting, h, ha]

theorem State.waiting_congr {s t : State} (h : t.port = s.port) : t.waiting = s.waiting := by
  simp [State.waiting, h]

/-- HWAIT# is high where no access is in progress (R5). -/
theorem State.hwaitLow_of_noAccess {s : State} (h : s.port.access = none) : s.hwaitLow = false := by
  simp [State.hwaitLow, h]

/-- HWAIT# is released once the wait deadline of a DONE access has passed (R5). -/
theorem State.hwaitLow_of_done {s : State} {a : Access} {o : AccessOutcome} (h : s.port.access = some a)
    (ha : a.status = .done o) (ht : a.waitDeadline ≤ s.now) : s.hwaitLow = false := by
  simpa [State.hwaitLow, h, ha] using ht

/-! ### Refusals -/

/-- A PENDING access is refused with the effects of R8 and R10. -/
theorem State.refuse_of_pending {s : State} {a : Access} {w : Wait} (h : s.port.access = some a)
    (ha : a.status = .pending w) (c : Cause) : s.refuse c = s.afterRefusal a c := by
  simp [State.refuse, State.afterRefusal, State.raise, h, ha]

/-- Without a PENDING access a refusal has no effect (R6). -/
theorem State.refuse_of_idle {s : State} (h : s.waiting = none) (c : Cause) : s.refuse c = s := by
  unfold State.waiting at h
  unfold State.refuse
  split
  · rfl
  · rename_i a ha
    rw [ha] at h
    dsimp only at h
    split
    · rfl
    · rename_i w hw
      rw [hw] at h
      cases h

theorem State.ownerHears_of_idle {s : State} (h : s.waiting = none) : s.ownerHears = s := by
  simp [State.ownerHears, h]

theorem State.portRefuses_of_idle {s : State} (h : s.waiting = none) (c : Cause) : s.portRefuses c = s := by
  rw [State.portRefuses, State.ownerHears_of_idle h, State.refuse_of_idle h]

/-! ### The flags only rise -/

/-- `t` has the Port of `s`, and every flag of `s`. -/
abbrev State.SamePortMoreFlags (s t : State) : Prop :=
  t.port = s.port ∧ ∀ i, s.flags.getLsbD i = true → t.flags.getLsbD i = true

theorem State.SamePortMoreFlags.trans {s t u : State} (h : s.SamePortMoreFlags t) (h' : t.SamePortMoreFlags u) :
    s.SamePortMoreFlags u :=
  ⟨h'.1.trans h.1, fun i hi => h'.2 i (h.2 i hi)⟩

theorem State.SamePortMoreFlags.of_eq {s t : State} (hp : t.port = s.port) (hf : t.flags = s.flags) :
    s.SamePortMoreFlags t :=
  ⟨hp, fun i hi => by rw [hf]; exact hi⟩

theorem State.SamePortMoreFlags.waiting {s t : State} (h : s.SamePortMoreFlags t) (hw : s.waiting = none) :
    t.waiting = none :=
  (State.waiting_congr h.1).trans hw

/-- A set flag stays set when one is raised (R178). -/
theorem State.raise_samePortMoreFlags (s : State) (f : EventFlag) : s.SamePortMoreFlags (s.raise f) :=
  ⟨rfl, fun i hi => by simp [State.raise, hi]⟩

/-- A raised flag is set (R178). -/
theorem State.flagSet_raise (s : State) (f : EventFlag) : (s.raise f).flagSet f = true := by
  have hf : f.bit < 16 := by
    cases f with
    | watch n => simp only [EventFlag.bit]; omega
    | _ => simp [EventFlag.bit]
  simp [State.flagSet, State.raise, EventFlag.mask, hf]

theorem State.removeEntry_samePortMoreFlags (s : State) (b : Fin 16) : s.SamePortMoreFlags (s.removeEntry b) := by
  unfold State.removeEntry
  dsimp only
  split
  · exact State.raise_samePortMoreFlags _ _
  · exact .of_eq rfl rfl

theorem State.becomeFailed_samePortMoreFlags (s : State) (b : Fin 16) : s.SamePortMoreFlags (s.becomeFailed b) := by
  unfold State.becomeFailed
  exact .trans (.of_eq (by simp) (by simp)) (State.raise_samePortMoreFlags _ _)

theorem State.endWell_samePortMoreFlags (s : State) (b : Fin 16) : s.SamePortMoreFlags (s.endWell b) := by
  unfold State.endWell
  dsimp only
  split
  · exact .trans (.of_eq (by simp) (by simp)) (State.removeEntry_samePortMoreFlags _ _)
  · exact .of_eq (by simp) (by simp)

/-! ### The consequences of a step leave a Port that does not wait as it is (R6) -/

/-- Entering HOLDUP refuses nothing where no access waits (R15). -/
theorem State.enterHoldup_samePortMoreFlags {s : State} (h : s.waiting = none) : s.SamePortMoreFlags s.enterHoldup := by
  unfold State.enterHoldup
  dsimp only
  refine foldl_invariant (P := fun t => s.SamePortMoreFlags t) ?_ fun t b ht => ?_
  · rw [State.portRefuses_of_idle]
    · exact .trans (State.raise_samePortMoreFlags _ .holdup) (.of_eq (by simp) (by simp))
    · exact h
  · unfold State.endUnstartedCheck
    split
    · exact ht.trans (State.endWell_samePortMoreFlags t b)
    · exact ht

/-- The end of start-up hands no access off where none waits (R189). -/
theorem State.endStartup_samePortMoreFlags {s : State} (h : s.waiting = none) : s.SamePortMoreFlags s.endStartup := by
  unfold State.endStartup
  generalize startupDecision s.startup.store = p
  obtain ⟨o, c⟩ := p
  dsimp only
  have hi : s.SamePortMoreFlags (s.installConfiguration o c) := .of_eq rfl rfl
  have hr : s.SamePortMoreFlags
      (if o = .defaultsFlagged then (s.installConfiguration o c).raise .descriptor else s.installConfiguration o c) := by
    split
    · exact hi.trans (State.raise_samePortMoreFlags _ _)
    · exact hi
  generalize (if o = .defaultsFlagged then (s.installConfiguration o c).raise .descriptor
    else s.installConfiguration o c) = u at hr
  have hu : u.waiting = none := hr.waiting h
  split
  · exact hr.trans (State.enterHoldup_samePortMoreFlags hu)
  · split
    · rename_i hw
      exact nomatch hu.symm.trans hw
    · exact hr.trans (.of_eq rfl rfl)

/-- Where no access waits, no consequence changes the Port or clears a flag. -/
theorem Drawn.samePortMoreFlags {s t : State} (h : Drawn s t) (hw : s.waiting = none) : s.SamePortMoreFlags t := by
  cases h with
  | refused c h => simp [hw] at h
  | completed b h hq => simp [hw] at h
  | resolved _ h ht => simp [hw] at h
  | served h hq => simp [hw] at h
  | flushed h =>
    unfold State.completeFlush
    exact .trans (.of_eq rfl rfl) (State.raise_samePortMoreFlags _ _)
  | stopped b hs h => exact .of_eq (by simp) (by simp)
  | started b h => exact .of_eq (by simp) (by simp)
  | handedOver b h => exact State.becomeFailed_samePortMoreFlags s b
  | probed h hr =>
    unfold State.endProbePhase
    split
    · exact .of_eq rfl rfl
    · exact State.endStartup_samePortMoreFlags hw
  | startedUp h hr => exact State.endStartup_samePortMoreFlags hw

/-- The end of a step leaves a Port that does not wait as it is, and clears no flag. -/
theorem State.conclude_samePortMoreFlags {s : State} (hw : s.waiting = none) (before : State) :
    s.SamePortMoreFlags (s.conclude before) := by
  have hs : s.SamePortMoreFlags s.settle :=
    State.settle_induct (P := fun t => s.SamePortMoreFlags t)
      (fun _ _ hu hd => hu.trans (hd.samePortMoreFlags (hu.waiting hw))) (.of_eq rfl rfl)
  unfold State.conclude State.noteShort
  split
  · exact hs.trans (State.raise_samePortMoreFlags _ _)
  · exact hs

@[simp] theorem State.conclude_now (s before : State) : (s.conclude before).now = s.now :=
  (s.conclude_sameOutside before).1

/-! ### Easing a settled state leaves it settled -/

/-- A buffer record after a wait on its fetch is gone: it stands as before with the fill flag at most cleared, or it had no
entry and is FREE. -/
def PageBuffer.Eased (x y : PageBuffer) : Prop :=
  (y.state = x.state ∧ y.stage = x.stage ∧ y.tag = x.tag ∧ (y.fill = true → x.fill = true)) ∨
    (x.state.hasEntry = false ∧ y.state = .free)

theorem PageBuffer.Eased.refl (x : PageBuffer) : x.Eased x := .inl ⟨rfl, rfl, rfl, id⟩

/-- Easing changes no record that a commit looks at: one with an entry keeps state, stage and tag. -/
theorem PageBuffer.Eased.of_hasEntry {x y : PageBuffer} (h : x.Eased y)
    (he : x.state.hasEntry = true ∨ y.state.hasEntry = true) :
    y.state = x.state ∧ y.stage = x.stage ∧ y.tag = x.tag := by
  rcases h with ⟨hs, hg, ht, -⟩ | ⟨hx, hy⟩
  · exact ⟨hs, hg, ht⟩
  · rw [hx, hy] at he
    simp [BufferState.hasEntry] at he

theorem PageBuffer.Eased.state_eq_iff {x y : PageBuffer} (h : x.Eased y) {z : BufferState} (hz : z.hasEntry = true) :
    y.state = z ↔ x.state = z := by
  constructor
  · intro hy
    rw [← (h.of_hasEntry (.inr (hy ▸ hz))).1, hy]
  · intro hx
    rw [(h.of_hasEntry (.inl (hx ▸ hz))).1, hx]

/-- An evictable record stays evictable (R39). -/
theorem PageBuffer.Eased.evictable {x y : PageBuffer} (h : x.Eased y) (hx : x.evictable = true) :
    y.evictable = true := by
  rcases h with ⟨hs, -, -, hf⟩ | ⟨-, hy⟩
  · have hf : x.fill = false → y.fill = false := by cases hy : y.fill <;> simp_all
    simp only [PageBuffer.evictable, Bool.or_eq_true, Bool.and_eq_true, decide_eq_true_eq, Bool.not_eq_true'] at hx ⊢
    rw [hs]
    exact hx.imp id (And.imp id hf)
  · simp [PageBuffer.evictable, hy]

/-- `u` gives no condition of a consequence that `s` does not give: its access waits on nothing a command brings about,
its buffers are eased, and what else the conditions read is the same. -/
structure State.Eased (s u : State) : Prop where
  waiting : u.waiting = none ∨ u.waiting = some .handOff
  buffers : ∀ b : Fin 16, s.buffers[b].Eased u.buffers[b]
  queue : u.queue = s.queue
  part : u.part = s.part
  supply : u.supply = s.supply
  devices : u.devices = s.devices
  startup : u.startup = s.startup
  resetHeld : u.resetHeld = s.resetHeld
  settings : u.settings = s.settings
  requested : u.requested .descriptorRead 0 = s.requested .descriptorRead 0
  onLink : u.onLink .descriptorRead 0 = s.onLink .descriptorRead 0

/-- A state with another Port and another clock alone is eased, where the new access waits on nothing yet. -/
theorem State.eased_of_port {s : State} {p : Port} {n : Time}
    (h : ({ s with port := p, now := n } : State).waiting = none ∨
      ({ s with port := p, now := n } : State).waiting = some .handOff) :
    s.Eased { s with port := p, now := n } :=
  ⟨h, fun _ => .refl _, rfl, rfl, rfl, rfl, rfl, rfl, rfl, rfl, rfl⟩

section Eased
variable {s u : State}

theorem State.Eased.dirty_iff (h : s.Eased u) (b : Fin 16) :
    u.buffers[b].state = .dirty ↔ s.buffers[b].state = .dirty :=
  (h.buffers b).state_eq_iff rfl

theorem State.Eased.committing_iff (h : s.Eased u) (b : Fin 16) :
    u.buffers[b].state = .committing ↔ s.buffers[b].state = .committing :=
  (h.buffers b).state_eq_iff rfl

theorem State.Eased.budgetSpent (h : s.Eased u) : u.budgetSpent = s.budgetSpent := by
  simp only [State.budgetSpent, h.part, h.supply]

theorem State.Eased.shortCondition (h : s.Eased u) : u.shortCondition = s.shortCondition := by
  simp only [State.shortCondition, h.budgetSpent, h.queue, h.dirty_iff]

theorem State.Eased.flushComplete (h : s.Eased u) : u.flushComplete = s.flushComplete := by
  simp only [State.flushComplete, h.queue, ne_eq, h.dirty_iff, h.committing_iff]

theorem State.Eased.engineWaits (h : s.Eased u) (b : Fin 16) : u.engineWaits b = s.engineWaits b := by
  unfold State.engineWaits
  by_cases hc : s.buffers[b].state = .committing
  · obtain ⟨hs, hg, -⟩ := (h.buffers b).of_hasEntry (.inl (by rw [hc]; rfl))
    rw [hs, hg]
  · have hu : u.buffers[b].state ≠ .committing := fun hu => hc ((h.committing_iff b).mp hu)
    rw [decide_eq_false hc, decide_eq_false hu, Bool.false_and, Bool.false_and]

theorem State.Eased.deviceCommitting (h : s.Eased u) (d : Fin 4) : u.deviceCommitting d = s.deviceCommitting d := by
  unfold State.deviceCommitting
  congr 1
  funext b
  by_cases hc : s.buffers[b].state = .committing
  · obtain ⟨hs, -, ht⟩ := (h.buffers b).of_hasEntry (.inl (by rw [hc]; rfl))
    rw [State.deviceOfBuffer, State.deviceOfBuffer, hs, ht]
  · have hu : u.buffers[b].state ≠ .committing := fun hu => hc ((h.committing_iff b).mp hu)
    rw [decide_eq_false hc, decide_eq_false hu, Bool.false_and, Bool.false_and]

theorem State.Eased.headDirty (h : s.Eased u) : u.headDirty = s.headDirty := by
  simp only [State.headDirty, h.queue, h.dirty_iff]

/-- Easing can only end a shortage of buffers (R69). -/
theorem State.Eased.lowOnBuffers (h : s.Eased u) (hu : u.lowOnBuffers = true) : s.lowOnBuffers = true := by
  have hle : s.evictableCount ≤ u.evictableCount :=
    List.countP_mono_left fun b _ hb => (h.buffers b).evictable hb
  simp only [State.lowOnBuffers, decide_eq_true_eq, h.settings] at hu ⊢
  omega

theorem State.Eased.wanted (h : s.Eased u) {b : Fin 16} (hu : u.wanted b = true) : s.wanted b = true := by
  simp only [State.wanted, State.causeIn, h.queue, h.part, h.headDirty, Bool.and_eq_true, Bool.or_eq_true] at hu ⊢
  exact hu.imp id (Or.imp id (And.imp h.lowOnBuffers id))

theorem State.Eased.startable (h : s.Eased u) {x : DeviceState} {b : Fin 16} (hu : u.startable x b = true) :
    s.startable x b = true := by
  have hd : u.buffers[b].state = .dirty := by
    unfold State.startable at hu
    split at hu
    · cases hu
    · simp only [Bool.and_eq_true, decide_eq_true_eq] at hu
      obtain ⟨⟨⟨⟨⟨-, hd⟩, -⟩, -⟩, -⟩, -⟩ := hu
      exact hd
  obtain ⟨hs, -, ht⟩ := (h.buffers b).of_hasEntry (.inr (by rw [hd]; rfl))
  have hb : u.deviceOfBuffer b = s.deviceOfBuffer b := by rw [State.deviceOfBuffer, ht, State.deviceOfBuffer]
  unfold State.startable at hu ⊢
  rw [hb] at hu
  split at hu
  · cases hu
  · simp only [Bool.and_eq_true, hs, h.queue, h.devices, h.deviceCommitting, h.budgetSpent] at hu ⊢
    obtain ⟨⟨⟨⟨⟨hw, hd⟩, hm⟩, hx⟩, hc⟩, hb⟩ := hu
    exact ⟨⟨⟨⟨⟨h.wanted hw, hd⟩, hm⟩, hx⟩, hc⟩, hb⟩

theorem State.Eased.probing (h : s.Eased u) : u.probing = s.probing := by
  simp only [State.probing, h.devices]

theorem State.Eased.readingDescriptor (h : s.Eased u) : u.readingDescriptor = s.readingDescriptor := by
  simp only [State.readingDescriptor, h.requested, h.onLink]

/-- A settled state is one in which no unit has a consequence to draw. -/
theorem State.settled_iff : s.settled ↔
    s.settleAccess = none ∧ s.settleFlush = none ∧ s.settleFill = none ∧ s.settleQueue = none ∧
      s.settleBufferWait = none ∧ s.settleStartup = none := by
  simp [State.settled, State.consequence]

theorem State.Eased.settleAccess (h : s.Eased u) : u.settleAccess = none := by
  rcases h.waiting with hw | hw <;> simp [State.settleAccess, hw]

theorem State.Eased.settleBufferWait (h : s.Eased u) : u.settleBufferWait = none := by
  rcases h.waiting with hw | hw <;> simp [State.settleBufferWait, hw]

theorem State.Eased.settleFlush (h : s.Eased u) (hs : s.settleFlush = none) : u.settleFlush = none := by
  simpa [State.settleFlush, h.flushComplete] using hs

theorem State.Eased.settleFill (h : s.Eased u) (hs : s.settleFill = none) : u.settleFill = none := by
  simpa [State.settleFill, h.budgetSpent, h.engineWaits] using hs

theorem State.Eased.settleQueue (h : s.Eased u) (hs : s.settleQueue = none) : u.settleQueue = none := by
  simp only [State.settleQueue, Option.map_eq_none_iff, List.find?_eq_none, Bool.or_eq_true, h.queue] at hs ⊢
  exact fun b hb hu => hs b hb (hu.imp h.startable h.startable)

theorem State.Eased.settleStartup (h : s.Eased u) (hs : s.settleStartup = none) : u.settleStartup = none := by
  unfold State.settleStartup at hs ⊢
  rw [h.resetHeld, h.startup, h.probing, h.readingDescriptor]
  split at hs
  · rename_i hr
    rw [if_pos hr]
  · rename_i hr
    rw [if_neg hr]
    split at hs <;> rename_i hp <;> simp_all

/-- Easing a settled state leaves it settled: every condition of a consequence that holds then held before. -/
theorem State.Eased.settled (h : s.Eased u) (hs : s.settled) : u.settled := by
  obtain ⟨-, hflush, hfill, hqueue, -, hstart⟩ := State.settled_iff.mp hs
  exact State.settled_iff.mpr ⟨h.settleAccess, h.settleFlush hflush, h.settleFill hfill, h.settleQueue hqueue,
    h.settleBufferWait, h.settleStartup hstart⟩

/-- A command that eases a settled state has no further effect. -/
theorem State.Eased.conclude (h : s.Eased u) (hs : s.settled) : u.conclude s = u :=
  State.conclude_of_settled (h.settled hs) (by rw [h.shortCondition]; cases s.shortCondition <;> simp)

end Eased

/-! ### Reset (R16) -/

/-- While reset is held no row but the reset rows and the two edges of FLUSHREQ# has an effect: every other row asks first
whether reset is held. -/
theorem exec_of_held {c : Instr} {s : State} (h : s.resetHeld = true)
    (hend : ∀ style msa below, c ≠ .resetEnd style msa below) (hpower : c ≠ .powerOnReset) (hrst : c ≠ .rstAssert)
    (hfall : c ≠ .flushreqFall) (hrise : c ≠ .flushreqRise) : exec c s = .next s := by
  cases c with
  | resetEnd style msa below => exact absurd rfl (hend style msa below)
  | powerOnReset => exact absurd rfl hpower
  | rstAssert => exact absurd rfl hrst
  | flushreqFall => exact absurd rfl hfall
  | flushreqRise => exact absurd rfl hrise
  | _ => exact if_pos h

/-- Settles O4: the reset rows are the start of reset, and no row but those named acts while it is held. -/
theorem resetClearsAndHoldsEveryBlock : Obligations.ResetClearsAndHoldsEveryBlock := by
  refine ⟨fun c s hc => ?_, fun c s h => ⟨?_, exec_of_held h⟩⟩
  · rcases hc with rfl | rfl <;> rfl
  · rintro rfl
    exact if_pos h

/-! ### The start of an access (R4, R14, R15) -/

/-- HOST_ACCESS_START with CE# low and the Port IDLE, at an active edge (R4). -/
theorem exec_hostAccessStart {s : State} {edge : ActiveEdge} {dir : Direction} (hr : s.resetHeld = false)
    (hidle : s.port.access = none) (hdir : activeDirection s.straps.style edge = some dir) (address : HostAddress)
    (data : Byte) : exec (.hostAccessStart edge true address data) s =
      .next ((s.startAccess dir address data).receive.conclude s) := by
  simp only [exec, execHostAccessStart, State.act_of_released hr, hidle, hdir, if_true]

/-- An edge that starts no access changes nothing (log entry 26). -/
theorem exec_hostAccessStart_of_ineffective {s : State} {edge : ActiveEdge} {ceLow : Bool} (hs : s.settled)
    (h : ceLow = false ∨ s.port.access ≠ none ∨ activeDirection s.straps.style edge = none) (address : HostAddress)
    (data : Byte) : exec (.hostAccessStart edge ceLow address data) s = .next s := by
  unfold exec execHostAccessStart
  refine State.act_of_unchanged hs ?_
  split
  · rename_i hidle hdir
    have hce : ceLow = false := by simpa [hidle, hdir] using h
    simp [hce]
  · rfl

/-- The active edges of the two styles (R1, R2). -/
theorem activeDirection_eq_some_iff (style : CycleStyle) (edge : ActiveEdge) (dir : Direction) :
    activeDirection style edge = some dir ↔
      (style = .strobePair ∧ (edge = .rdsFall ∧ dir = .read ∨ edge = .wrsFall ∧ dir = .write)) ∨
      (style = .enable ∧ (edge = .enRise true ∧ dir = .read ∨ edge = .enRise false ∧ dir = .write)) := by
  cases style with
  | strobePair => cases edge <;> simp [activeDirection, eq_comm]
  | enable =>
    cases edge with
    | rdsFall => simp [activeDirection]
    | wrsFall => simp [activeDirection]
    | enRise rwHigh => cases rwHigh <;> simp [activeDirection, eq_comm]

/-- Settles O6: the access is DONE before any consequence is drawn, and no consequence changes a Port that does not wait. -/
theorem accessInHoldupIsRefused : Obligations.AccessInHoldupIsRefused := by
  intro edge dir address data s ⟨hr, _⟩ hpart hidle hdir
  have hx := exec_hostAccessStart hr hidle hdir address data
  have hrefused : (s.startAccess dir address data).receive =
      (s.startAccess dir address data).afterRefusal (s.newAccess dir address) .holdup := by
    rw [State.receive, show (s.startAccess dir address data).part = .holdup from hpart]
    exact State.refuse_of_pending rfl rfl _
  rw [hrefused] at hx
  refine ⟨_, hx, ?_⟩
  generalize hu : (s.startAccess dir address data).afterRefusal (s.newAccess dir address) .holdup = u
  have haccess : u.port.access = some { s.newAccess dir address with status := .done (.refused .holdup) } := by
    rw [← hu]; rfl
  have hflag : u.flagSet .accessFault = true := by rw [← hu]; exact State.flagSet_raise _ _
  have hnow : (u.conclude s).now = s.now := by rw [State.conclude_now, ← hu]; rfl
  obtain ⟨hport, hflags⟩ := State.conclude_samePortMoreFlags (State.waiting_of_done haccess rfl) s
  refine ⟨by rw [hport, haccess], by rw [hport, ← hu]; rfl, ?_, hflags _ hflag, ?_⟩
  · rintro rfl
    rw [State.dataLines, hport, ← hu]
    rfl
  · exact State.hwaitLow_of_done (by rw [hport, haccess]) rfl hnow.ge

/-- Settles O7: the held access waits on its hand-off alone, so the settled state stays settled. -/
theorem accessInStartingIsHeld : Obligations.AccessInStartingIsHeld := by
  refine ⟨fun edge dir address data s hr hs hpart hidle hdir => ⟨?_, rfl⟩,
    fun edge ceLow address data s hs h => exec_hostAccessStart_of_ineffective hs h address data,
    activeDirection_eq_some_iff⟩
  have heased : s.Eased (s.startAccess dir address data) := State.eased_of_port (.inr rfl)
  have hheld : (s.startAccess dir address data).receive = s.startAccess dir address data := by
    rw [State.receive, show (s.startAccess dir address data).part = .starting from hpart]
  rw [exec_hostAccessStart hr hidle hdir, hheld, heased.conclude hs]
  rfl

/-! ### The deadlines of an access (R5, R12) -/

/-- Settles O18: moving the clock for a DONE access eases the state, so nothing follows. -/
theorem waitDeadlineReleasesHwait : Obligations.WaitDeadlineReleasesHwait := by
  intro a o s hr hs ha ho
  have heased : s.Eased (s.advanceTo a.waitDeadline) := State.eased_of_port (.inl (State.waiting_of_done ha ho))
  refine ⟨?_, State.hwaitLow_of_done ha ho (le_max_right _ _)⟩
  calc exec .waitDeadline s
      = .next ((s.advanceTo a.waitDeadline).conclude s) := by
        simp only [exec, execWaitDeadline, State.act_of_released hr, ha]
    _ = .next (s.advanceTo a.waitDeadline) := by rw [heased.conclude hs]

/-- The Port's own refusal of a PENDING access, after its owner has heard (R12, R15). -/
theorem State.portRefuses_of_pending {s : State} {a : Access} {w : Wait} (h : s.port.access = some a)
    (ha : a.status = .pending w) (c : Cause) : s.portRefuses c = s.ownerHears.afterRefusal a c :=
  State.refuse_of_pending (by simpa using h) ha c

/-- HOLD_DEADLINE of a PENDING access (R12). -/
theorem exec_holdDeadline {s : State} {a : Access} {w : Wait} {deadline : Time} (hr : s.resetHeld = false)
    (ha : s.port.access = some a) (hw : a.status = .pending w) (hd : a.holdDeadline = some deadline) :
    exec .holdDeadline s =
      .next (((s.advanceTo deadline).ownerHears.afterRefusal a .holdLimit).conclude s) := by
  rw [← State.portRefuses_of_pending (s := s.advanceTo deadline) ha hw]
  simp only [exec, execHoldDeadline, State.act_of_released hr, State.waiting_of_pending ha hw, ha, Option.bind_some, hd]

/-- The fault record takes the first refusal, and records the later ones as an overflow (R10). -/
theorem FaultRecord.capture_of_empty {f : FaultRecord} (h : f.full = false) (a : Access) (c : Cause) : f.capture a c =
    { full := true, address := a.address, direction := a.direction, cause := some c, overflow := false } := by
  simp [FaultRecord.capture, h]

theorem FaultRecord.capture_of_full {f : FaultRecord} (h : f.full = true) (a : Access) (c : Cause) :
    f.capture a c = { f with overflow := true } := by
  simp [FaultRecord.capture, h]

/-- Settles O19: the refused access waits no more, so what the step draws after it leaves the Port alone. -/
theorem holdDeadlineRefuses : Obligations.HoldDeadlineRefuses := by
  refine ⟨fun a w deadline s hr ha hw hd => ⟨_, exec_holdDeadline hr ha hw hd, ?_⟩,
    fun f a c => ⟨fun h => f.capture_of_empty h a c, fun h => f.capture_of_full h a c⟩⟩
  generalize hu : (s.advanceTo deadline).ownerHears.afterRefusal a .holdLimit = u
  have haccess : u.port.access = some { a with status := .done (.refused .holdLimit) } := by rw [← hu]; rfl
  have hflag : u.flagSet .accessFault = true := by rw [← hu]; exact State.flagSet_raise _ _
  obtain ⟨hport, hflags⟩ := State.conclude_samePortMoreFlags (State.waiting_of_done haccess rfl) s
  refine ⟨?_, by rw [hport, haccess], ?_, fun hread => ?_, hflags _ hflag⟩
  · rw [State.conclude_now, ← hu]
    simp [State.afterRefusal, State.advanceTo]
  · rw [hport, ← hu]
    simp [State.afterRefusal]
  · rw [hport, ← hu]
    simp [State.afterRefusal, hread]

/-! ### The end of an access by the host (R13, R43) -/

/-- HOST_ACCESS_END at an edge that ends the access in progress (R13). -/
theorem exec_hostAccessEnd {s : State} {a : Access} {edge : EndEdge} (hr : s.resetHeld = false)
    (ha : s.port.access = some a) (hedge : endsAccess s.straps.style a.direction edge = true) :
    exec (.hostAccessEnd edge) s = .next ((s.ownerHears.setAccess none).conclude s) := by
  simp only [exec, execHostAccessEnd, State.act_of_released hr, ha, hedge, if_true]

/-- An edge that ends no access changes nothing (log entry 26). -/
theorem exec_hostAccessEnd_of_ineffective {s : State} {edge : EndEdge} (hs : s.settled)
    (h : s.port.access.all (fun a => !endsAccess s.straps.style a.direction edge) = true) :
    exec (.hostAccessEnd edge) s = .next s := by
  unfold exec execHostAccessEnd
  refine State.act_of_unchanged hs ?_
  split
  · rfl
  · rename_i a ha
    have hedge : endsAccess s.straps.style a.direction edge = false := by simpa [ha] using h
    rw [hedge]
    rfl

/-- The edges that end an access (R13). -/
theorem endsAccess_iff (style : CycleStyle) (dir : Direction) (edge : EndEdge) : endsAccess style dir edge = true ↔
    edge = .ceRise ∨ (style = .enable ∧ edge = .enFall) ∨
      (style = .strobePair ∧ (dir = .read ∧ edge = .rdsRise ∨ dir = .write ∧ edge = .wrsRise)) := by
  cases edge with
  | ceRise => cases style <;> simp [endsAccess]
  | enFall => cases style <;> simp [endsAccess]
  | rdsRise => cases style <;> cases dir <;> simp [endsAccess]
  | wrsRise => cases style <;> cases dir <;> simp [endsAccess]

/-- A fetch goes on where it has started or the Engine waits on it (R43). -/
theorem State.ownerHears_of_fetchKept {s : State} {b : Fin 16} (hw : s.waiting = some (.fetch b))
    (h : s.engineWaits b = true ∨ s.fetchRequested b = false) : s.ownerHears = s := by
  unfold State.ownerHears
  rw [hw]
  rcases h with h | h <;> simp [h]

/-- A fetch not started and with no waiter left is cancelled (R43). -/
theorem State.ownerHears_of_fetchCancelled {s : State} {b : Fin 16} (hw : s.waiting = some (.fetch b))
    (he : s.engineWaits b = false) (hf : s.fetchRequested b = true) :
    s.ownerHears = (s.cancelFetch b).freeIfUnknown b := by
  simp [State.ownerHears, hw, he, hf]

/-- The withdrawal of an access whose owner has nothing to do leaves a settled state settled. -/
theorem State.conclude_setAccess_none {s : State} (hs : s.settled) :
    (s.setAccess none).conclude s = s.setAccess none :=
  State.Eased.conclude (State.eased_of_port (.inl rfl)) hs

@[simp] theorem State.cancelFetch_buffer_self (s : State) (b : Fin 16) :
    (s.cancelFetch b).buffers[b] = { s.buffers[b] with fill := false } := by
  simp [State.cancelFetch]

theorem State.cancelFetch_requests_all (s : State) (b : Fin 16) :
    (s.cancelFetch b).requests.all (fun o => decide (o.kind ≠ .pageFetch b)) = true := by
  simp [State.cancelFetch]

/-- A cancelled fetch is no descriptor read. -/
theorem State.cancelFetch_requested_descriptorRead (s : State) (b : Fin 16) :
    (s.cancelFetch b).requested .descriptorRead 0 = s.requested .descriptorRead 0 := by
  rw [State.requested, State.requested, State.cancelFetch, List.any_filter]
  congr 1
  funext o
  by_cases ho : o.kind = .descriptorRead <;> simp [ho]

/-- The fetch on the link loses its requester and nothing else. -/
theorem State.orphanFetch_onLink (s : State) (b : Fin 16) (k : OperationKind) (d : Fin 4) :
    (s.orphanFetch b).onLink k d = s.onLink k d := by
  unfold State.orphanFetch
  split
  · rfl
  · rename_i l hl
    split <;> simp [State.onLink, hl]

/-- Each buffer but `b` is as it was, and `b` is as eased as its record. -/
theorem State.buffers_eased_of_set {s : State} {b : Fin 16} {x : PageBuffer} (hx : s.buffers[b].Eased x) (b' : Fin 16) :
    s.buffers[b'].Eased (s.buffers.set b x)[b'] := by
  by_cases hb : b' = b
  · subst hb
    simpa using hx
  · have hne : (b : Nat) ≠ b' := fun h => hb (Fin.ext h.symm)
    rw [Fin.getElem_fin, Fin.getElem_fin, Vector.getElem_set_ne _ _ hne]
    exact .refl _

/-- Withdrawing a read and cancelling its fetch eases the state (R43). -/
theorem State.eased_cancelFetch (s : State) (b : Fin 16) : s.Eased ((s.cancelFetch b).setAccess none) where
  waiting := .inl rfl
  buffers := State.buffers_eased_of_set (.inl ⟨rfl, rfl, rfl, nofun⟩)
  queue := rfl
  part := rfl
  supply := rfl
  devices := rfl
  startup := rfl
  resetHeld := rfl
  settings := rfl
  requested := s.cancelFetch_requested_descriptorRead b
  onLink := rfl

/-- A buffer without an entry is freed with its fetch, and leaves the recency list (R38). -/
theorem State.freeBuffer_of_noEntry (s : State) {b : Fin 16} (h : Queue.hasEntry s.queue b = false) :
    s.freeBuffer b = { ((s.cancelFetch b).orphanFetch b).setBuffer b PageBuffer.freed with
      recency := s.recency.erase b } := by
  simp [State.freeBuffer, h]

theorem State.freeBuffer_cancelFetch_buffers {s : State} {b : Fin 16} (h : Queue.hasEntry s.queue b = false) :
    ((s.cancelFetch b).freeBuffer b).buffers = s.buffers.set b PageBuffer.freed := by
  rw [(s.cancelFetch b).freeBuffer_of_noEntry h]
  simp [State.cancelFetch]

theorem State.freeBuffer_cancelFetch_requests {s : State} {b : Fin 16} (h : Queue.hasEntry s.queue b = false) :
    ((s.cancelFetch b).freeBuffer b).requests = (s.cancelFetch b).requests := by
  rw [(s.cancelFetch b).freeBuffer_of_noEntry h]
  simp [State.cancelFetch]

/-- Withdrawing a read and freeing its buffer, which has no entry, eases the state (R43). -/
theorem State.eased_freeBuffer {s : State} {b : Fin 16} (hstate : s.buffers[b].state.hasEntry = false)
    (hq : Queue.hasEntry s.queue b = false) : s.Eased (((s.cancelFetch b).freeBuffer b).setAccess none) where
  waiting := .inl rfl
  buffers b' := by
    rw [State.setAccess_buffers, State.freeBuffer_cancelFetch_buffers hq]
    exact State.buffers_eased_of_set (.inr ⟨hstate, rfl⟩) b'
  queue := by
    rw [(s.cancelFetch b).freeBuffer_of_noEntry hq]
    simp
  part := by simp
  supply := by simp
  devices := by simp
  startup := by simp
  resetHeld := by simp
  settings := by simp
  requested := by
    rw [← s.cancelFetch_requested_descriptorRead b, State.requested, State.requested, State.setAccess_requests,
      State.freeBuffer_cancelFetch_requests hq]
  onLink := by
    rw [(s.cancelFetch b).freeBuffer_of_noEntry hq]
    exact State.orphanFetch_onLink _ b _ _

/-- A record that knows no byte has no dirty byte and none in flight, so it has no entry (R34, R35). -/
theorem PageBuffer.hasEntry_of_unknown {x : PageBuffer} (hn : x.mapsNested) (hf : x.fitsState = true)
    (hv : x.valid = 0) : x.state.hasEntry = false := by
  obtain ⟨hd, hi, -⟩ := hn
  have hall : ~~~x.valid = BitVec.allOnes 64 := by rw [hv]; rfl
  rw [hall, BitVec.and_allOnes] at hd hi
  cases hx : x.state <;> simp [BufferState.hasEntry, PageBuffer.fitsState, hx, hd, hi] at hf ⊢

/-- A buffer whose state has no entry has none in the queue (R34). -/
theorem State.paired.noEntry {s : State} {b : Fin 16} (h : s.paired) (hb : s.buffers[b].state.hasEntry = false) :
    Queue.hasEntry s.queue b = false := by
  have hc : s.queue.countP (·.isFor b) = 0 := by
    rw [h b, hb]
    rfl
  simpa [Queue.hasEntry, List.countP_eq_zero] using hc

/-- The withdrawn read's fetch is cancelled, and its buffer freed where nothing is known; nothing else follows (R43). -/
theorem State.withdrawn_of_fetchCancelled {s : State} {b : Fin 16} (hw : s.waiting = some (.fetch b)) (hs : s.settled)
    (hc : s.coherent) (he : s.engineWaits b = false) (hf : s.fetchRequested b = true) :
    let t := (s.ownerHears.setAccess none).conclude s
    t.requests.all (fun o => decide (o.kind ≠ .pageFetch b)) = true ∧
      (s.buffers[b].valid = 0 → t.buffers[b] = PageBuffer.freed ∧ b ∉ t.recency) ∧
      (s.buffers[b].valid ≠ 0 → t.buffers[b] = { s.buffers[b] with fill := false }) := by
  obtain ⟨-, hmaps, hpaired, -, ⟨hnodup, -⟩, -, -⟩ := hc
  obtain ⟨hnested, hfits⟩ := hmaps b
  dsimp only
  rw [State.ownerHears_of_fetchCancelled hw he hf, State.freeIfUnknown, State.cancelFetch_buffer_self]
  by_cases hv : s.buffers[b].valid = 0
  · have hstate := PageBuffer.hasEntry_of_unknown hnested hfits hv
    have hq := State.paired.noEntry hpaired hstate
    rw [if_pos hv, (State.eased_freeBuffer hstate hq).conclude hs]
    refine ⟨?_, fun _ => ⟨?_, ?_⟩, fun h => absurd hv h⟩
    · rw [State.setAccess_requests, State.freeBuffer_cancelFetch_requests hq]
      exact s.cancelFetch_requests_all b
    · rw [State.setAccess_buffers, State.freeBuffer_cancelFetch_buffers hq]
      simp
    · rw [(s.cancelFetch b).freeBuffer_of_noEntry hq]
      exact hnodup.not_mem_erase
  · rw [if_neg hv, (s.eased_cancelFetch b).conclude hs]
    exact ⟨s.cancelFetch_requests_all b, fun h => absurd h hv, fun _ => s.cancelFetch_buffer_self b⟩

/-- Settles O17: the withdrawal eases the state, so no consequence follows it. -/
theorem accessEndsFromTheHostSide : Obligations.AccessEndsFromTheHostSide := by
  refine ⟨fun edge a s hr ha hedge => ⟨fun o ho hs => ?_, fun w hw => ?_⟩,
    fun edge s hs h => exec_hostAccessEnd_of_ineffective hs h, endsAccess_iff⟩
  · rw [exec_hostAccessEnd hr ha hedge, State.ownerHears_of_idle (State.waiting_of_done ha ho),
      State.conclude_setAccess_none hs]
    rfl
  · have hport : ((s.ownerHears.setAccess none).conclude s).port = { s.port with access := none } := by
      rw [(State.conclude_samePortMoreFlags (State.waiting_of_noAccess rfl) s).1]
      simp
    refine ⟨_, exec_hostAccessEnd hr ha hedge, hport, State.hwaitLow_of_noAccess (by rw [hport]), ?_, ?_⟩
    · rintro b rfl hs hc hfill hf
      exact State.withdrawn_of_fetchCancelled (State.waiting_of_pending ha hw) hs hc hfill hf
    · rintro b rfl hs h
      rw [State.ownerHears_of_fetchKept (State.waiting_of_pending ha hw) h, State.conclude_setAccess_none hs]
      exact ⟨rfl, rfl, rfl⟩

end Sys2Proof.Machine
end

section
/-! PROOFS. The configuration: what each operation does to region table, settings, capacities and budget count, and that
every step keeps them as the guards keep them (R17, R25, R30, R161, R162). -/
namespace Sys2Proof.Machine

/-! ### Operations that leave the configuration alone -/

/-- `t` has the region table, settings, capacities and part state of `s`; of the budget it has at most spent some, and
that in HOLDUP alone (R161, R162). -/
structure State.SameConfiguration (s t : State) : Prop where
  regions : t.regions = s.regions
  settings : t.settings = s.settings
  capacity : ∀ d : Fin 4, t.devices[d].capacity = s.devices[d].capacity
  part : t.part = s.part
  count_le : t.supply.count ≤ s.supply.count
  count_eq : s.part ≠ .holdup → t.supply.count = s.supply.count

theorem State.SameConfiguration.trans {s t u : State} (h : s.SameConfiguration t) (h' : t.SameConfiguration u) :
    s.SameConfiguration u where
  regions := h'.regions.trans h.regions
  settings := h'.settings.trans h.settings
  capacity d := (h'.capacity d).trans (h.capacity d)
  part := h'.part.trans h.part
  count_le := h'.count_le.trans h.count_le
  count_eq hp := (h'.count_eq (by rwa [h.part])).trans (h.count_eq hp)

/-- An operation that writes none of the fields in which the configuration stands. -/
theorem State.SameConfiguration.of_frame {s t : State} (h : t.regions = s.regions ∧ t.settings = s.settings ∧
    t.devices = s.devices ∧ t.part = s.part ∧ t.supply.count = s.supply.count) : s.SameConfiguration t := by
  obtain ⟨hr, hs, hd, hp, hc⟩ := h
  exact ⟨hr, hs, fun d => by rw [hd], hp, hc.le, fun _ => hc⟩

theorem State.SameConfiguration.refl (s : State) : s.SameConfiguration s := .of_frame ⟨rfl, rfl, rfl, rfl, rfl⟩

/-- What the guards keep depends on nothing but the configuration, and spending the budget in HOLDUP keeps it. -/
theorem State.SameConfiguration.configured {s t : State} (h : s.SameConfiguration t) (hs : s.configured) :
    t.configured := by
  obtain ⟨hregions, hsettings, hwithin, hapart, hle, heq⟩ := hs
  simp only [State.configured, State.regionsWithin, State.regionsApart, State.budgetGood, h.regions, h.settings,
    h.capacity, h.part]
  exact ⟨hregions, hsettings, hwithin, hapart, h.count_le.trans hle, fun hp => (h.count_eq hp).trans (heq hp)⟩

/-- A vector with one component replaced, read at an index of its bound's type. -/
theorem vector_set_fin {α : Type} {n : Nat} (v : Vector α n) (i j : Fin n) (x : α) :
    (v.set i x)[j] = if j = i then x else v[j] := by
  rw [Fin.getElem_fin, Fin.getElem_fin, Vector.getElem_set]
  exact if_congr (by rw [Fin.ext_iff, eq_comm]) rfl rfl

theorem State.devices_setDevice (s : State) (d e : Fin 4) (x : Device) :
    (s.setDevice d x).devices[e] = if e = d then x else s.devices[e] :=
  vector_set_fin s.devices d e x

/-- A device record that keeps its capacity can be replaced. -/
theorem State.setDevice_sameConfiguration {s : State} {d : Fin 4} {x : Device}
    (h : x.capacity = s.devices[d].capacity) : s.SameConfiguration (s.setDevice d x) where
  regions := rfl
  settings := rfl
  capacity e := by
    rw [State.devices_setDevice]
    split
    · subst e
      exact h
    · rfl
  part := rfl
  count_le := le_rfl
  count_eq _ := rfl

/-! ### The Commit Engine spends the budget in HOLDUP alone (R104) -/

theorem State.enterSend_sameConfiguration (s : State) (b : Fin 16) : s.SameConfiguration (s.enterSend b) := by
  unfold State.enterSend
  split
  · rename_i hp
    split
    · exact .of_frame (by simp)
    · exact { (State.SameConfiguration.of_frame (by simp) :
          ({ s with supply := { s.supply with count := s.supply.count - 1 } } : State).SameConfiguration _) with
        count_le := by simp
        count_eq := fun h => absurd hp h }
  · exact .of_frame (by simp)

theorem State.startChoice_sameConfiguration (s : State) (b : Fin 16) : s.SameConfiguration (s.startChoice b) := by
  unfold State.startChoice
  split
  · exact s.enterSend_sameConfiguration b
  · exact .of_frame (by simp)

theorem State.startCommit_sameConfiguration (s : State) (b : Fin 16) : s.SameConfiguration (s.startCommit b) :=
  .trans (.of_frame (by simp)) (State.startChoice_sameConfiguration _ b)

/-- A counted failure leads to nothing but the retry that could spend the budget (R103). -/
theorem State.afterFailure_sameConfiguration (s : State) (b : Fin 16) {retry : State → State}
    (h : ∀ u : State, u.SameConfiguration (retry u)) : s.SameConfiguration (s.afterFailure b retry) := by
  unfold State.afterFailure
  dsimp only
  split
  · exact .of_frame (by simp)
  · split
    · exact .of_frame (by simp)
    · split
      · exact .of_frame (by simp)
      · exact .trans (.of_frame (by simp)) (h _)

theorem State.fetchComplete_sameConfiguration (s : State) (b : Fin 16) (data : PageBytes) :
    s.SameConfiguration (s.fetchComplete b data) := by
  have sends : ∀ u : State, s.SameConfiguration u →
      s.SameConfiguration (if u.engineWaits b then u.enterSend b else u) := by
    intro u hu
    split
    · exact hu.trans (u.enterSend_sameConfiguration b)
    · exact hu
  unfold State.fetchComplete
  refine sends _ ?_
  repeat' split
  all_goals exact .of_frame (by simp)

theorem State.operationFailed_sameConfiguration (s : State) (l : LinkOperation) (x : Stall) :
    s.SameConfiguration (s.operationFailed l x) := by
  unfold State.operationFailed
  cases l.operation.kind with
  | program b =>
    dsimp only
    split
    · exact .trans (.of_frame (by simp))
        (State.afterFailure_sameConfiguration _ b fun u => u.startChoice_sameConfiguration b)
    · exact .refl s
  | checkRead b =>
    dsimp only
    split
    · exact s.afterFailure_sameConfiguration b fun u => u.startChoice_sameConfiguration b
    · exact .refl s
  | pageFetch b =>
    dsimp only
    split
    · exact .of_frame (by simp)
    · exact .refl s
  | streamRead => exact .of_frame (by simp)
  | _ => exact .refl s

/-! ### The page link: a device record keeps its capacity -/

theorem State.moveCounter_sameConfiguration (s : State) (l : LinkOperation) (a : Nat) :
    s.SameConfiguration (s.moveCounter l a) := by
  unfold State.moveCounter
  dsimp only
  split <;> exact State.setDevice_sameConfiguration rfl

theorem State.readCompleted_sameConfiguration (s : State) (l : LinkOperation) :
    s.SameConfiguration (s.readCompleted l) :=
  .trans (.of_frame (by simp)) (State.moveCounter_sameConfiguration _ l _)

theorem State.raise_sameConfiguration (s : State) (f : EventFlag) : s.SameConfiguration (s.raise f) :=
  .of_frame (by simp)

theorem State.endOperations_sameConfiguration (s : State) (d : Fin 4) : s.SameConfiguration (s.endOperations d) :=
  .of_frame (by simp)

theorem State.endBusy_sameConfiguration (s : State) (b : Fin 16) : s.SameConfiguration (s.endBusy b) :=
  .of_frame (by simp)

theorem State.releaseSpan_sameConfiguration (s : State) (d : Fin 4) : s.SameConfiguration (s.releaseSpan d) :=
  .of_frame (by simp)

theorem State.deviceStuck_sameConfiguration (s : State) (d : Fin 4) : s.SameConfiguration (s.deviceStuck d) := by
  refine .trans ?_ (State.raise_sameConfiguration _ _)
  exact State.setDevice_sameConfiguration rfl

/-- What goes through a list of operations or buffers leaves the configuration alone if each of its steps does. -/
theorem State.foldl_sameConfiguration {β : Type} {f : State → β → State}
    (h : ∀ (u : State) (b : β), u.SameConfiguration (f u b))
    (s : State) (l : List β) : s.SameConfiguration (l.foldl f s) :=
  foldl_invariant (P := s.SameConfiguration) (.refl s) fun u b hu => hu.trans (h u b)

theorem State.deviceAbsent_sameConfiguration (s : State) (d : Fin 4) : s.SameConfiguration (s.deviceAbsent d) := by
  have raised : s.SameConfiguration (if s.devices[d].state = .absent then s else s.raise .deviceFault) := by
    split
    · exact .refl s
    · exact .of_frame (by simp)
  have record : (if s.devices[d].state = .absent then s else s.raise .deviceFault).devices = s.devices := by
    split <;> rfl
  unfold State.deviceAbsent
  refine .trans ?_ (State.foldl_sameConfiguration (fun u b => .of_frame (by simp)) _ _)
  refine .trans ?_ (State.foldl_sameConfiguration (fun u b => .of_frame (by simp)) _ _)
  refine .trans ?_ (State.endOperations_sameConfiguration _ d)
  refine .trans (raised.trans ?_) (State.setDevice_sameConfiguration (by simp only [State.withdraw_devices, record]))
  exact .of_frame (by simp)

theorem State.lastAttemptFailed_sameConfiguration (s : State) (l : LinkOperation) (n : Nat) :
    s.SameConfiguration (s.lastAttemptFailed l n) := by
  have free : s.SameConfiguration { s with link := none } := .of_frame ⟨rfl, rfl, rfl, rfl, rfl⟩
  unfold State.lastAttemptFailed
  dsimp only
  split
  · split
    · exact free.trans (State.operationFailed_sameConfiguration _ l _)
    · refine .trans ?_ (State.endOperations_sameConfiguration _ _)
      exact (free.trans (State.deviceStuck_sameConfiguration _ _)).trans
        (State.operationFailed_sameConfiguration _ l _)
  · exact free.trans (State.operationFailed_sameConfiguration _ l _)

theorem State.transferBroken_sameConfiguration (s : State) (l : LinkOperation) (i : Nat) :
    s.SameConfiguration (s.transferBroken l i) := by
  have unknown (t : Time) (d : Fin 4) : s.SameConfiguration ((s.advanceTo t).setDevice d
      { (s.advanceTo t).devices[d] with counter := none }) :=
    .trans (.of_frame (by simp)) (State.setDevice_sameConfiguration rfl)
  unfold State.transferBroken
  dsimp only
  split
  · exact (unknown _ _).trans (.of_frame ⟨rfl, rfl, rfl, rfl, rfl⟩)
  · exact (unknown _ _).trans (State.lastAttemptFailed_sameConfiguration _ l _)

theorem State.pollAcknowledged_sameConfiguration (s : State) (d : Fin 4) :
    s.SameConfiguration (s.pollAcknowledged d) := by
  unfold State.pollAcknowledged
  dsimp only
  split
  · split
    · refine .trans ?_ (State.endBusy_sameConfiguration _ _)
      exact State.setDevice_sameConfiguration rfl
    · exact State.setDevice_sameConfiguration rfl
  · exact State.setDevice_sameConfiguration rfl
  · exact .refl s
  · exact .refl s

theorem State.pollRefused_sameConfiguration (s : State) (d : Fin 4) : s.SameConfiguration (s.pollRefused d) := by
  unfold State.pollRefused
  split
  · exact State.setDevice_sameConfiguration rfl
  · exact State.setDevice_sameConfiguration rfl
  · exact .refl s
  · exact .refl s

theorem State.programTimedOut_sameConfiguration (s : State) (d : Fin 4) :
    s.SameConfiguration (s.programTimedOut d) := by
  unfold State.programTimedOut
  refine .trans ?_ (State.endOperations_sameConfiguration _ d)
  refine (s.deviceStuck_sameConfiguration d).trans ?_
  split
  · exact .of_frame (by simp)
  · exact .refl _

theorem State.enterBusy_sameConfiguration (s : State) (b : Fin 16) (d : Fin 4) :
    s.SameConfiguration (s.enterBusy b d) := by
  unfold State.enterBusy
  refine .trans ?_ (State.releaseSpan_sameConfiguration _ d)
  exact .trans (t := s.setBuffer b _) (.of_frame (by simp)) (State.setDevice_sameConfiguration rfl)

theorem State.startProbe_sameConfiguration (s : State) (d : Fin 4) (bound : Time) :
    s.SameConfiguration (s.startProbe d bound) :=
  .trans (.of_frame (by simp)) (State.setDevice_sameConfiguration rfl)

theorem State.probeRefused_sameConfiguration (s : State) (d : Fin 4) : s.SameConfiguration (s.probeRefused d) := by
  unfold State.probeRefused
  split
  · exact .refl s
  · split
    · exact s.deviceAbsent_sameConfiguration d
    · exact State.setDevice_sameConfiguration rfl

/-! ### What a descriptor and an entry shadow can say (R187, R191) -/

theorem bits_lt (v : Byte) (hi lo : Nat) : bits v hi lo < 2 ^ (hi - lo + 1) :=
  (v.extractLsb hi lo).isLt

/-- A region that eight bytes say has every field in its range: the VALUE check of R25. -/
theorem Region.inRange_of_ofBytes {v : Vector Byte 8} {r : Region} (h : Region.ofBytes v = some r) : r.inRange := by
  unfold Region.ofBytes at h
  dsimp only at h
  split at h
  · cases h
  · split at h
    · cases h
    · rename_i hvalue
      have hhost := bits_lt v[0] 5 0
      have hwait := bits_lt v[6] 3 0
      have hage := bits_lt v[7] 3 0
      have hlow := v[1].isLt
      cases h
      dsimp only [Region.inRange]
      omega

theorem Settings.inRange_of_ofBytes {v : Vector Byte 8} {x : Settings} {capacities : Vector Capacity 4}
    (h : Settings.ofBytes v = some (x, capacities)) : x.inRange := by
  unfold Settings.ofBytes at h
  split at h
  · cases h
  · split at h
    · cases h
    · rename_i hvalue
      have hhold := v[2].isLt
      cases h
      dsimp only [Settings.inRange]
      omega

theorem Region.overlaps_comm (r r' : Region) : r.overlaps r' = r'.overlaps r := by
  simp only [Region.overlaps, Bool.and_comm]

theorem Region.inRange_cleared : Region.cleared.inRange := by decide

/-- What a list of options all of which are values holds. -/
theorem exists_of_mem_mapM {α β : Type} {f : α → Option β} {l : List α} {l' : List β} (h : l.mapM f = some l')
    {y : β} (hy : y ∈ l') : ∃ x ∈ l, f x = some y := by
  induction l generalizing l' with
  | nil =>
    simp only [List.mapM_nil, Option.pure_def, Option.some.injEq] at h
    subst h
    cases hy
  | cons a l ih =>
    simp only [List.mapM_cons, Option.bind_eq_bind, Option.bind_eq_some_iff, Option.pure_def,
      Option.some.injEq] at h
    obtain ⟨z, hz, rest, hrest, rfl⟩ := h
    rcases List.mem_cons.mp hy with rfl | hy
    · exact ⟨a, List.mem_cons_self, hz⟩
    · obtain ⟨x, hx, hfx⟩ := ih hrest hy
      exact ⟨x, List.mem_cons_of_mem _ hx, hfx⟩

theorem noneOverlap_iff (l : List Region) : noneOverlap l = true ↔
    l.Pairwise fun r r' => r.enabled = true → r'.enabled = true → r.overlaps r' = false := by
  induction l with
  | nil => simp [noneOverlap]
  | cons r l ih =>
    rw [noneOverlap, Bool.and_eq_true, ih, List.pairwise_cons]
    refine and_congr_left fun _ => ?_
    cases r.enabled <;> simp [imp_iff_not_or]

/-- A configuration that start-up may install: as the guards keep it. -/
structure Configuration.Good (c : Configuration) : Prop where
  regions : ∀ n : Fin 8, c.regions[n].inRange
  settings : c.settings.inRange
  within : ∀ n : Fin 8, c.regions[n].enabled = true → c.regions[n].within c.capacities[c.regions[n].device] = true
  apart : ∀ m n : Fin 8, m ≠ n → c.regions[m].enabled = true → c.regions[n].enabled = true →
    c.regions[m].overlaps c.regions[n] = false

theorem Configuration.good_defaults : Configuration.defaults.Good where
  regions := by decide
  settings := by decide
  within := by decide
  apart := by decide

theorem Configuration.good_of_descriptor {data : PageBytes} {c : Configuration}
    (h : descriptorConfiguration data = some c) : c.Good := by
  unfold descriptorConfiguration at h
  split at h
  · cases h
  split at h
  · cases h
  split at h
  · cases h
  rename_i x capacities hsettings
  split at h
  · cases h
  rename_i l hregions
  split at h
  · rename_i hchecks
    obtain ⟨hwithin, hapart⟩ := Bool.and_eq_true_iff.mp hchecks
    cases h
    have entry (n : Fin 8) : (Vector.ofFn fun n : Fin 8 => (l[n.val]?).getD Region.cleared)[n] =
        (l[n.val]?).getD Region.cleared := by simp
    have listed {n : Fin 8} (he : ((l[n.val]?).getD Region.cleared).enabled = true) :
        ∃ h : n.val < l.length, (l[n.val]?).getD Region.cleared = l[n.val] := by
      by_cases hn : n.val < l.length
      · exact ⟨hn, by simp [hn]⟩
      · simp [hn, Region.cleared] at he
    refine ⟨fun n => ?_, Settings.inRange_of_ofBytes hsettings, fun n he => ?_, fun m n hmn hm hn => ?_⟩
    · rw [entry]
      cases hn : l[n.val]? with
      | none => exact Region.inRange_cleared
      | some r =>
        obtain ⟨k, -, hk⟩ := exists_of_mem_mapM hregions (List.mem_of_getElem? hn)
        exact Region.inRange_of_ofBytes hk
    · simp only [entry] at he ⊢
      obtain ⟨hn, heq⟩ := listed he
      simp only [heq] at he ⊢
      simpa [he] using List.all_eq_true.mp hwithin _ (List.getElem_mem hn)
    · simp only [entry] at hm hn ⊢
      obtain ⟨hm', heqm⟩ := listed hm
      obtain ⟨hn', heqn⟩ := listed hn
      rw [heqm] at hm ⊢
      rw [heqn] at hn ⊢
      have pairwise := List.pairwise_iff_getElem.mp ((noneOverlap_iff l).mp hapart)
      rcases lt_or_gt_of_ne fun h => hmn (Fin.ext h) with hlt | hlt
      · exact pairwise _ _ hm' hn' hlt hm hn
      · rw [Region.overlaps_comm]
        exact pairwise _ _ hn' hm' hlt hn hm
  · cases h

theorem Configuration.good_startupDecision (store : Option PageBytes) : (startupDecision store).2.Good := by
  unfold startupDecision
  split
  · exact good_defaults
  · split
    · split
      · rename_i hc
        exact good_of_descriptor hc
      · exact good_defaults
    · exact good_defaults

/-! ### HOLDUP and start-up load the budget count (R159, R162, R165, R188) -/

/-- With the table, settings and capacities of `s`, any count of the setting's value is as the guards keep it. -/
theorem State.configured_of_loaded {s t : State} (hs : s.configured) (hr : t.regions = s.regions)
    (hx : t.settings = s.settings) (hd : ∀ d : Fin 4, t.devices[d].capacity = s.devices[d].capacity)
    (hc : t.supply.count = s.settings.budget) : t.configured := by
  obtain ⟨hregions, hsettings, hwithin, hapart, -⟩ := hs
  simp only [State.configured, State.regionsWithin, State.regionsApart, State.budgetGood, hr, hx, hd, hc]
  exact ⟨hregions, hsettings, hwithin, hapart, le_rfl, fun _ => trivial⟩

theorem State.enterHoldup_configured {s : State} (hs : s.configured) : s.enterHoldup.configured := by
  have entered : ({ s with
      part := .holdup, supply := { s.supply with count := s.settings.budget } } : State).configured :=
    State.configured_of_loaded hs rfl rfl (fun _ => rfl) rfl
  unfold State.enterHoldup
  refine State.SameConfiguration.configured ?_ entered
  exact .trans (.of_frame (by simp)) (State.foldl_sameConfiguration (fun u b => .of_frame (by simp)) _ _)

theorem State.exitHoldup_configured {s : State} (hs : s.configured) : s.exitHoldup.configured :=
  State.configured_of_loaded hs rfl rfl (fun _ => rfl) rfl

/-- A good configuration is put in force whole, whatever stood before (R188). -/
theorem State.installConfiguration_configured (s : State) (outcome : StartupOutcome) {c : Configuration} (hc : c.Good) :
    (s.installConfiguration outcome c).configured := by
  have capacity (d : Fin 4) : (s.installConfiguration outcome c).devices[d].capacity = c.capacities[d] := by
    simp [State.installConfiguration, Device.install]
  refine ⟨hc.regions, hc.settings, fun n hn => ?_, hc.apart, le_rfl, fun _ => rfl⟩
  rw [capacity]
  exact hc.within n hn

/-- Start-up ends with what the descriptor store decided in force, and RUNNING or in HOLDUP (R160, R189). -/
theorem State.endStartup_configured (s : State) : s.endStartup.configured := by
  have good := Configuration.good_startupDecision s.startup.store
  unfold State.endStartup
  generalize startupDecision s.startup.store = decision at good
  obtain ⟨outcome, c⟩ := decision
  dsimp only at good ⊢
  have installed := s.installConfiguration_configured outcome good
  have ends (u : State) (hu : u.configured) (hc : u.supply.count = u.settings.budget) :
      (if u.supply.state.endsInHoldup then u.enterHoldup
        else if ({ u with part := .running } : State).waiting = some .handOff
          then ({ u with part := .running } : State).handOff else { u with part := .running }).configured := by
    have running : ({ u with part := .running } : State).configured :=
      State.configured_of_loaded hu rfl rfl (fun _ => rfl) hc
    split
    · exact State.enterHoldup_configured hu
    · split
      · exact State.SameConfiguration.configured (.of_frame (by simp)) running
      · exact running
  refine ends _ ?_ ?_
  · split
    · exact (State.raise_sameConfiguration _ _).configured installed
    · exact installed
  · split <;> rfl

theorem State.endProbePhase_configured {s : State} (hs : s.configured) : s.endProbePhase.configured := by
  unfold State.endProbePhase
  split
  · exact State.SameConfiguration.configured (.of_frame ⟨rfl, rfl, rfl, rfl, rfl⟩) hs
  · exact s.endStartup_configured

/-! ### The consequences of a step -/

theorem State.resolveAgain_sameConfiguration {s t : State} (h : s.resolveAgain = some t) : s.SameConfiguration t := by
  unfold State.resolveAgain at h
  repeat' split at h
  all_goals cases h
  all_goals exact .of_frame (by simp)

theorem Drawn.sameConfiguration {s t : State} (h : Drawn s t) (hdone : s.startup.phase = .done) :
    s.SameConfiguration t := by
  cases h with
  | resolved _ _ ht => exact State.resolveAgain_sameConfiguration ht
  | started b _ => exact s.startCommit_sameConfiguration b
  | probed h _ => rw [hdone] at h; cases h
  | startedUp h _ => rw [hdone] at h; rcases h with h | h <;> cases h
  | _ => exact .of_frame (by simp)

theorem Drawn.configured {s t : State} (h : Drawn s t) (hs : s.configured) : t.configured := by
  cases h with
  | resolved _ _ ht => exact (State.resolveAgain_sameConfiguration ht).configured hs
  | started b _ => exact (s.startCommit_sameConfiguration b).configured hs
  | probed _ _ => exact State.endProbePhase_configured hs
  | startedUp _ _ => exact s.endStartup_configured
  | _ => exact State.SameConfiguration.configured (.of_frame (by simp)) hs

theorem State.noteShort_sameConfiguration (s before : State) : s.SameConfiguration (s.noteShort before) := by
  unfold State.noteShort
  split
  · exact s.raise_sameConfiguration _
  · exact .refl s

theorem State.conclude_configured {s : State} (hs : s.configured) (before : State) : (s.conclude before).configured :=
  (State.noteShort_sameConfiguration _ before).configured
    (State.settle_induct (P := State.configured) (fun _ _ hu hd => hd.configured hu) hs)

/-! ### Applies (R25, R30) -/

theorem State.applied_sameConfiguration (s : State) (x : ApplyStatus) : s.SameConfiguration (s.applied x) :=
  .of_frame (by simp)

/-- What an accepted region apply has checked (R25). -/
theorem State.checkRegion_ok {s : State} {n : Fin 8} {v : Vector Byte 8} {r : Region} (h : s.checkRegion n v = .ok r) :
    Region.ofBytes v = some r ∧ (r.enabled = true → r.within s.devices[r.device].capacity = true) ∧
      ∀ m : Fin 8, m ≠ n → r.enabled = true → s.regions[m].enabled = true → r.overlaps s.regions[m] = false := by
  unfold State.checkRegion at h
  split at h
  · cases h
  rename_i r' hbytes
  split at h
  · cases h
  rename_i hrange
  split at h
  · cases h
  rename_i hoverlap
  split at h
  · cases h
  cases h
  refine ⟨hbytes, fun he => by simpa [he] using hrange, fun m hm he hme => ?_⟩
  simp only [he, State.overlapsOther, Bool.true_and, List.any_eq_true, Bool.and_eq_true, decide_eq_true_eq,
    not_exists, not_and, Bool.not_eq_true] at hoverlap
  exact hoverlap m (List.mem_finRange m) ⟨hm, hme⟩

theorem State.applyRegion_configured {s : State} (hs : s.configured) (n : Fin 8) (x : Shadow) :
    (s.applyRegion n x).configured := by
  unfold State.applyRegion
  split
  · rename_i r hr
    obtain ⟨hbytes, hrange, hfree⟩ := State.checkRegion_ok hr
    obtain ⟨hregions, hsettings, hwithin, hapart, hbudget⟩ := hs
    refine State.SameConfiguration.configured (s := { s with regions := s.regions.set n r })
      (State.applied_sameConfiguration _ _) ⟨fun m => ?_, hsettings, fun m => ?_, fun m k hmk => ?_, hbudget⟩
    · dsimp only
      rw [vector_set_fin]
      split
      · exact Region.inRange_of_ofBytes hbytes
      · exact hregions m
    · simp only [vector_set_fin]
      split
      · exact hrange
      · exact hwithin m
    · simp only [vector_set_fin]
      split
      · rename_i hm
        rw [if_neg fun hk => hmk (hm.trans hk.symm)]
        exact hfree k fun hk => hmk (hm.trans hk.symm)
      · rename_i hm
        split
        · intro he he'
          rw [Region.overlaps_comm]
          exact hfree m hm he' he
        · exact hapart m k hmk
  · exact (State.applied_sameConfiguration _ _).configured hs

/-! ### A capacity change (R31, R143) -/

@[simp] theorem State.loseCounter_frame (s : State) (d : Fin 4) :
    (s.loseCounter d).resetHeld = s.resetHeld ∧ (s.loseCounter d).part = s.part ∧
    (s.loseCounter d).startup = s.startup ∧ (s.loseCounter d).port = s.port ∧
    (s.loseCounter d).settings = s.settings ∧ (s.loseCounter d).regions = s.regions ∧
    (s.loseCounter d).buffers = s.buffers ∧ (s.loseCounter d).recency = s.recency ∧
    (s.loseCounter d).devices = s.devices ∧ (s.loseCounter d).supply = s.supply ∧
    (s.loseCounter d).management = s.management := by
  unfold State.loseCounter
  repeat' split
  all_goals simp

@[simp] theorem State.freeBeyond_frame (s : State) (d : Fin 4) (c : Capacity) (b : Fin 16) :
    (s.freeBeyond d c b).resetHeld = s.resetHeld ∧ (s.freeBeyond d c b).part = s.part ∧
    (s.freeBeyond d c b).startup = s.startup ∧ (s.freeBeyond d c b).port = s.port ∧
    (s.freeBeyond d c b).settings = s.settings ∧ (s.freeBeyond d c b).regions = s.regions ∧
    (s.freeBeyond d c b).devices = s.devices ∧ (s.freeBeyond d c b).supply = s.supply ∧
    (s.freeBeyond d c b).management = s.management := by
  unfold State.freeBeyond
  split <;> simp

@[simp] theorem State.streamCapacityChange_frame (s : State) (d : Fin 4) :
    (s.streamCapacityChange d).resetHeld = s.resetHeld ∧ (s.streamCapacityChange d).part = s.part ∧
    (s.streamCapacityChange d).startup = s.startup ∧ (s.streamCapacityChange d).settings = s.settings ∧
    (s.streamCapacityChange d).regions = s.regions ∧ (s.streamCapacityChange d).buffers = s.buffers ∧
    (s.streamCapacityChange d).recency = s.recency ∧ (s.streamCapacityChange d).devices = s.devices ∧
    (s.streamCapacityChange d).supply = s.supply ∧ (s.streamCapacityChange d).management = s.management := by
  unfold State.streamCapacityChange
  repeat' split
  all_goals simp

/-- The record of the device takes the new capacity, with its counter UNKNOWN; of the other blocks only the link, the
pool and the stream hear of it. -/
@[simp] theorem State.changeCapacity_frame (s : State) (d : Fin 4) (c : Capacity) :
    (s.changeCapacity d c).resetHeld = s.resetHeld ∧ (s.changeCapacity d c).part = s.part ∧
    (s.changeCapacity d c).startup = s.startup ∧ (s.changeCapacity d c).settings = s.settings ∧
    (s.changeCapacity d c).regions = s.regions ∧
    (s.changeCapacity d c).devices = s.devices.set d { s.devices[d] with capacity := c, counter := none } ∧
    (s.changeCapacity d c).supply = s.supply ∧ (s.changeCapacity d c).management = s.management := by
  have freed (u : State) : ∀ l : List (Fin 16),
      (l.foldl (fun s b => s.freeBeyond d c b) u).resetHeld = u.resetHeld ∧
      (l.foldl (fun s b => s.freeBeyond d c b) u).part = u.part ∧
      (l.foldl (fun s b => s.freeBeyond d c b) u).startup = u.startup ∧
      (l.foldl (fun s b => s.freeBeyond d c b) u).settings = u.settings ∧
      (l.foldl (fun s b => s.freeBeyond d c b) u).regions = u.regions ∧
      (l.foldl (fun s b => s.freeBeyond d c b) u).devices = u.devices ∧
      (l.foldl (fun s b => s.freeBeyond d c b) u).supply = u.supply ∧
      (l.foldl (fun s b => s.freeBeyond d c b) u).management = u.management := fun l =>
    foldl_invariant (P := fun t : State => t.resetHeld = u.resetHeld ∧ t.part = u.part ∧ t.startup = u.startup ∧
      t.settings = u.settings ∧ t.regions = u.regions ∧ t.devices = u.devices ∧ t.supply = u.supply ∧
      t.management = u.management) (by simp) fun t b ht => by simpa using ht
  simp [State.changeCapacity, freed]

/-! ### The settings apply (R30, R173) -/

/-- The part of a settings apply that one device's capacity code makes. -/
def State.takeCapacity (new : Vector Capacity 4) (s : State) (d : Fin 4) : State :=
  if s.capacityChanged new d then s.changeCapacity d new[d] else s

/-- The settings alone are in force, and the budget count follows them (R161). -/
def State.takeSettings (s : State) (x : Settings) : State :=
  { s with settings := x, supply := { s.supply with count := s.countAfterApply x.budget } }

/-- The settings are in force first, and then the capacities one device after the other. -/
theorem State.installSettings_eq (s : State) (x : Settings) (new : Vector Capacity 4) :
    s.installSettings x new = (List.finRange 4).foldl (State.takeCapacity new) (s.takeSettings x) := rfl

/-- A device record after an apply of entry 17: a changed capacity makes the counter UNKNOWN (R31). -/
def Device.withCapacity (x : Device) (c : Capacity) : Device :=
  if x.capacity = c then x else { x with capacity := c, counter := none }

@[simp] theorem Device.withCapacity_capacity (x : Device) (c : Capacity) : (x.withCapacity c).capacity = c := by
  unfold Device.withCapacity
  split
  · assumption
  · rfl

@[simp] theorem State.takeCapacity_frame (new : Vector Capacity 4) (s : State) (d : Fin 4) :
    (s.takeCapacity new d).resetHeld = s.resetHeld ∧ (s.takeCapacity new d).part = s.part ∧
    (s.takeCapacity new d).startup = s.startup ∧ (s.takeCapacity new d).settings = s.settings ∧
    (s.takeCapacity new d).regions = s.regions ∧ (s.takeCapacity new d).supply = s.supply ∧
    (s.takeCapacity new d).management = s.management := by
  unfold State.takeCapacity
  split <;> simp

theorem State.changeCapacity_devices (s : State) (d e : Fin 4) (c : Capacity) : (s.changeCapacity d c).devices[e] =
    if e = d then { s.devices[d] with capacity := c, counter := none } else s.devices[e] := by
  obtain ⟨-, -, -, -, -, hd, -⟩ := s.changeCapacity_frame d c
  exact (congrArg (fun v : Vector Device 4 => v[e]) hd).trans (s.devices_setDevice d e _)

theorem State.takeCapacity_devices (new : Vector Capacity 4) (s : State) (d e : Fin 4) :
    (s.takeCapacity new d).devices[e] = if e = d then s.devices[d].withCapacity new[d] else s.devices[e] := by
  unfold State.takeCapacity State.capacityChanged Device.withCapacity
  by_cases h : s.devices[d].capacity = new[d]
  · rw [if_neg (by simpa using h), if_pos h]
    split
    · rename_i he
      rw [he]
    · rfl
  · rw [if_pos (by simpa using h), if_neg h, State.changeCapacity_devices]

/-- A fold whose step at `i` acts on the component `i` alone acts on each component named in its list once. -/
theorem foldl_pointwise {σ ι α : Type} [DecidableEq ι] {f : σ → ι → σ} {get : σ → ι → α} {g : ι → α → α}
    (h : ∀ s i j, get (f s i) j = if j = i then g i (get s i) else get s j) {l : List ι} (hl : l.Nodup) (s : σ)
    (j : ι) :
    get (l.foldl f s) j = if j ∈ l then g j (get s j) else get s j := by
  induction l generalizing s with
  | nil => simp
  | cons i l ih =>
    obtain ⟨hi, hl⟩ := List.nodup_cons.mp hl
    rw [List.foldl_cons, ih hl, h]
    by_cases hj : j = i
    · subst hj
      simp [hi]
    · simp [hj]

theorem State.installSettings_devices (s : State) (x : Settings) (new : Vector Capacity 4) (d : Fin 4) :
    (s.installSettings x new).devices[d] = s.devices[d].withCapacity new[d] := by
  have fold := foldl_pointwise (get := fun (u : State) (e : Fin 4) => u.devices[e])
    (g := fun e y => y.withCapacity new[e]) (State.takeCapacity_devices new) (List.nodup_finRange 4)
    (s.takeSettings x) d
  exact fold.trans (if_pos (List.mem_finRange d))

@[simp] theorem State.installSettings_frame (s : State) (x : Settings) (new : Vector Capacity 4) :
    (s.installSettings x new).resetHeld = s.resetHeld ∧ (s.installSettings x new).part = s.part ∧
    (s.installSettings x new).startup = s.startup ∧ (s.installSettings x new).settings = x ∧
    (s.installSettings x new).regions = s.regions ∧
    (s.installSettings x new).supply = { s.supply with count := s.countAfterApply x.budget } ∧
    (s.installSettings x new).management = s.management := by
  rw [State.installSettings_eq]
  exact foldl_invariant (P := fun t : State => t.resetHeld = s.resetHeld ∧ t.part = s.part ∧ t.startup = s.startup ∧
    t.settings = x ∧ t.regions = s.regions ∧ t.supply = { s.supply with count := s.countAfterApply x.budget } ∧
    t.management = s.management) (by simp [State.takeSettings]) fun t d ht => by simpa using ht

/-- What an accepted settings apply has checked (R30): no enabled region reaches beyond a changed capacity. -/
theorem State.checkSettings_ok {s : State} {v : Vector Byte 8} {x : Settings} {new : Vector Capacity 4}
    (h : s.checkSettings v = .ok (x, new)) : Settings.ofBytes v = some (x, new) ∧
      ∀ n : Fin 8, s.regions[n].enabled = true →
        s.devices[s.regions[n].device].capacity ≠ new[s.regions[n].device] →
        s.regions[n].deviceBase + s.regions[n].pageCount ≤ new[s.regions[n].device].pages := by
  unfold State.checkSettings at h
  split at h
  · cases h
  rename_i hbytes
  split at h
  · cases h
  rename_i hrange
  split at h
  · cases h
  cases h
  refine ⟨hbytes, fun n he hc => ?_⟩
  simp only [List.any_eq_true, Bool.and_eq_true, State.capacityChanged, State.capacityCutsRegion, decide_eq_true_eq,
    not_exists, not_and] at hrange
  simpa using hrange _ (List.mem_finRange _) hc n (List.mem_finRange n) ⟨he, rfl⟩

theorem State.applySettings_configured {s : State} (hs : s.configured) (x : Shadow) :
    (s.applySettings x).configured := by
  unfold State.applySettings
  split
  · rename_i new capacities h
    obtain ⟨hbytes, hrange⟩ := State.checkSettings_ok h
    obtain ⟨hregions, -, hwithin, hapart, hle, heq⟩ := hs
    obtain ⟨-, hp, -, hx, hr, hsupply, -⟩ := s.installSettings_frame new capacities
    refine (State.applied_sameConfiguration _ _).configured ?_
    simp only [State.configured, State.regionsWithin, State.regionsApart, State.budgetGood, hp, hx, hr, hsupply,
      State.installSettings_devices, Device.withCapacity_capacity]
    refine ⟨hregions, Settings.inRange_of_ofBytes hbytes, fun n he => ?_, hapart, ?_, fun h => if_neg h⟩
    · by_cases hc : s.devices[s.regions[n].device].capacity = capacities[s.regions[n].device]
      · rw [← hc]
        exact hwithin n he
      · have hhost := hwithin n he
        simp only [Region.within, Bool.and_eq_true, decide_eq_true_eq] at hhost ⊢
        obtain ⟨hspace, -⟩ := hhost
        exact ⟨hspace, hrange n he hc⟩
    · unfold State.countAfterApply
      split
      · exact min_le_right _ _
      · exact le_rfl
  · exact (State.applied_sameConfiguration _ _).configured hs

/-! ### The other applies and the commands (R172, R177) -/

theorem State.commanded_sameConfiguration (s : State) (x : CommandStatus) : s.SameConfiguration (s.commanded x) :=
  .of_frame (by simp)

theorem State.takeCommandBytes_sameConfiguration (s : State) (x : Shadow) :
    s.SameConfiguration (s.takeCommandBytes x) :=
  .of_frame ⟨rfl, rfl, rfl, rfl, rfl⟩

theorem State.applyWatch_sameConfiguration (s : State) (n : Fin 8) (x : Shadow) :
    s.SameConfiguration (s.applyWatch n x) := by
  unfold State.applyWatch
  split <;> exact .of_frame (by simp)

theorem State.dropClean_sameConfiguration (s : State) : s.SameConfiguration s.dropClean :=
  .of_frame (by simp)

theorem State.retryCommand_sameConfiguration (s : State) : s.SameConfiguration s.retryCommand := by
  unfold State.retryCommand
  split <;> exact .of_frame (by simp)

theorem State.discardCommand_sameConfiguration (s : State) : s.SameConfiguration s.discardCommand := by
  unfold State.discardCommand
  split
  · dsimp only
    refine .trans ?_ (State.commanded_sameConfiguration _ _)
    split <;> exact .of_frame (by simp)
  · exact s.commanded_sameConfiguration _

theorem State.reprobeCommand_sameConfiguration (s : State) : s.SameConfiguration s.reprobeCommand := by
  unfold State.reprobeCommand
  split
  · exact (s.startProbe_sameConfiguration _ _).trans (State.commanded_sameConfiguration _ _)
  · exact s.commanded_sameConfiguration _

/-- The applies of region entries and of the settings change the configuration, and no other does. -/
theorem State.applyShadow_configured {s : State} (hs : s.configured) (x : Shadow) : (s.applyShadow x).configured := by
  have taken := s.takeCommandBytes_sameConfiguration x
  have done (u : State) (h : s.SameConfiguration u) (y : CommandStatus) : (u.commanded y).configured :=
    (h.trans (u.commanded_sameConfiguration y)).configured hs
  unfold State.applyShadow
  cases x.kind with
  | region n => exact State.applyRegion_configured hs n x
  | settings => exact State.applySettings_configured hs x
  | watch n => exact (s.applyWatch_sameConfiguration n x).configured hs
  | eventFlagClear => exact State.SameConfiguration.configured (.of_frame (by simp)) hs
  | faultRecordEmpty => exact State.SameConfiguration.configured (.of_frame (by simp)) hs
  | readOnly => exact (s.applied_sameConfiguration _).configured hs
  | argumentStore => exact taken.configured hs
  | flush => exact done _ (taken.trans (.of_frame (by simp))) _
  | barrier => exact done _ (taken.trans (.of_frame (by simp))) _
  | retry => exact (taken.trans (State.retryCommand_sameConfiguration _)).configured hs
  | discard => exact (taken.trans (State.discardCommand_sameConfiguration _)).configured hs
  | dropClean =>
    dsimp only
    have dropped := taken.trans (State.dropClean_sameConfiguration _)
    exact done (s.takeCommandBytes x).dropClean dropped .done
  | reprobe => exact (taken.trans (State.reprobeCommand_sameConfiguration _)).configured hs
  | unknown => exact done _ taken _

theorem State.closeTransaction_sameConfiguration (s : State) : s.SameConfiguration s.closeTransaction :=
  .of_frame (by simp)

theorem State.endTransaction_configured {s : State} (hs : s.configured) : s.endTransaction.configured := by
  unfold State.endTransaction
  split
  · exact (State.closeTransaction_sameConfiguration _).configured (State.applyShadow_configured hs _)
  · exact (State.closeTransaction_sameConfiguration _).configured hs

theorem State.openTransaction_sameConfiguration (s : State) (v : Byte) : s.SameConfiguration (s.openTransaction v) := by
  unfold State.openTransaction
  split <;> exact .of_frame (by simp)

theorem State.takePointer_sameConfiguration (s : State) (v : Byte) : s.SameConfiguration (s.takePointer v) := by
  unfold State.takePointer
  split <;> exact .of_frame (by simp)

theorem State.takeData_sameConfiguration (s : State) (v : Byte) : s.SameConfiguration (s.takeData v) := by
  unfold State.takeData
  split <;> exact .of_frame (by simp)

theorem State.sendByte_sameConfiguration (s : State) (acknowledged : Bool) :
    s.SameConfiguration (s.sendByte acknowledged) := by
  unfold State.sendByte
  split <;> exact .of_frame (by simp)

/-! ### The rows -/

theorem State.configured_of_act {s t : State} {f : State → State} (h : s.act f = .next t) (hs : s.configured)
    (hf : (f s).configured) : t.configured := by
  unfold State.act at h
  split at h
  · cases h
    exact hs
  · cases h
    exact State.conclude_configured hf s

/-- A row whose own effect leaves the configuration alone. -/
theorem State.configured_of_act_same {s t : State} {f : State → State} (h : s.act f = .next t) (hs : s.configured)
    (hf : s.SameConfiguration (f s)) : t.configured :=
  State.configured_of_act h hs (hf.configured hs)

theorem State.configured_of_applyRow {s t : State} {isKind : ApplyKind → Bool} (h : s.applyRow isKind = .next t)
    (hs : s.configured) : t.configured := by
  refine State.configured_of_act h hs ?_
  split
  · split
    · exact State.endTransaction_configured hs
    · exact hs
  · exact hs

theorem State.startAccess_sameConfiguration (s : State) (dir : Direction) (address : HostAddress) (data : Byte) :
    s.SameConfiguration (s.startAccess dir address data) :=
  .of_frame ⟨rfl, rfl, rfl, rfl, rfl⟩

theorem State.advanceTo_sameConfiguration (s : State) (time : Time) : s.SameConfiguration (s.advanceTo time) :=
  .of_frame (by simp)

theorem State.receive_sameConfiguration (s : State) : s.SameConfiguration s.receive := by
  unfold State.receive
  split <;> exact .of_frame (by simp)

theorem State.supplyLow_configured {s : State} (hs : s.configured) : s.supplyLow.configured := by
  have low : (s.setSupply .low none none).configured := State.SameConfiguration.configured (.of_frame (by simp)) hs
  unfold State.supplyLow
  dsimp only
  split
  · exact State.enterHoldup_configured low
  · exact low

theorem State.supplyRecovered_configured {s : State} (hs : s.configured) : s.supplyRecovered.configured := by
  have normal : (s.setSupply .normal none none).configured :=
    State.SameConfiguration.configured (.of_frame (by simp)) hs
  unfold State.supplyRecovered
  dsimp only
  split
  · exact State.exitHoldup_configured normal
  · exact normal

theorem State.held_configured : State.held.configured := by
  refine ⟨by decide, by decide, by decide, by decide, by decide⟩

theorem State.beginReset_configured (s : State) : s.beginReset.configured := State.held_configured

theorem State.endReset_configured (s : State) (style : CycleStyle) (msa below : Bool) :
    (s.endReset style msa below).configured := by
  have released : (if below then
      { State.held.supply with state := .sagPending, sagTimer := some (s.now + Config.filterTime) }
      else State.held.supply).count = State.held.supply.count := by
    split <;> rfl
  unfold State.endReset
  refine (State.foldl_sameConfiguration (fun u d => u.startProbe_sameConfiguration d _) _ _).configured ?_
  exact State.SameConfiguration.configured (s := State.held) (.of_frame ⟨rfl, rfl, rfl, rfl, released⟩)
    State.held_configured

theorem exec_hostBus_configured {c : Instr} {s t : State} (hc : commandClass c = .hostBus) (h : exec c s = .next t)
    (hs : s.configured) : t.configured := by
  cases c with
  | hostAccessStart edge ceLow address data =>
    simp only [exec, execHostAccessStart] at h
    refine State.configured_of_act_same h hs ?_
    split
    · split
      · exact (s.startAccess_sameConfiguration _ _ _).trans (State.receive_sameConfiguration _)
      · exact .refl s
    · exact .refl s
  | hostAccessEnd edge =>
    simp only [exec, execHostAccessEnd] at h
    refine State.configured_of_act_same h hs ?_
    split
    · exact .refl s
    · split
      · exact .of_frame (by simp)
      · exact .refl s
  | waitDeadline =>
    simp only [exec, execWaitDeadline] at h
    refine State.configured_of_act_same h hs ?_
    split
    · exact .refl s
    · exact .of_frame (by simp)
  | holdDeadline =>
    simp only [exec, execHoldDeadline] at h
    refine State.configured_of_act_same h hs ?_
    split
    · exact .of_frame (by simp)
    · exact .refl s
  | _ => cases hc

theorem exec_commits_configured {c : Instr} {s t : State} (hc : commandClass c = .commits) (h : exec c s = .next t)
    (hs : s.configured) : t.configured := by
  cases c with
  | commitStart b =>
    simp only [exec, execCommitStart] at h
    refine State.configured_of_act_same h hs ?_
    split
    · exact s.startCommit_sameConfiguration b
    · exact .refl s
  | absentHandover b =>
    simp only [exec, execAbsentHandover] at h
    refine State.configured_of_act_same h hs ?_
    split
    · exact .of_frame (by simp)
    · exact .refl s
  | ageDeadline b =>
    simp only [exec, execAgeDeadline] at h
    refine State.configured_of_act_same h hs ?_
    split
    · exact .refl s
    · exact .of_frame ⟨rfl, rfl, rfl, rfl, rfl⟩
  | flushreqFall =>
    simp only [exec, execFlushreqFall] at h
    split at h
    · cases h
      exact State.SameConfiguration.configured (.of_frame ⟨rfl, rfl, rfl, rfl, rfl⟩) hs
    · refine State.configured_of_act_same h hs ?_
      split
      · exact .refl s
      · exact .of_frame (by simp)
  | flushreqRise =>
    cases h
    exact State.SameConfiguration.configured (.of_frame ⟨rfl, rfl, rfl, rfl, rfl⟩) hs
  | _ => cases hc

theorem exec_supply_configured {c : Instr} {s t : State} (hc : commandClass c = .supply) (h : exec c s = .next t)
    (hs : s.configured) : t.configured := by
  cases c with
  | supplyBelowWarning =>
    simp only [exec, execSupplyBelowWarning] at h
    refine State.configured_of_act_same h hs ?_
    split <;> exact .of_frame (by simp)
  | supplyAboveWarning =>
    simp only [exec, execSupplyAboveWarning] at h
    refine State.configured_of_act_same h hs ?_
    split <;> exact .of_frame (by simp)
  | supplyAboveRecovery =>
    simp only [exec, execSupplyAboveRecovery] at h
    refine State.configured_of_act_same h hs ?_
    split <;> exact .of_frame (by simp)
  | supplyBelowRecovery =>
    simp only [exec, execSupplyBelowRecovery] at h
    refine State.configured_of_act_same h hs ?_
    split <;> exact .of_frame (by simp)
  | sagTimerExpiry =>
    simp only [exec, execSagTimerExpiry] at h
    refine State.configured_of_act h hs ?_
    split
    · exact State.supplyLow_configured ((s.advanceTo_sameConfiguration _).configured hs)
    · exact hs
  | recoveryTimerExpiry =>
    simp only [exec, execRecoveryTimerExpiry] at h
    refine State.configured_of_act h hs ?_
    split
    · exact State.supplyRecovered_configured ((s.advanceTo_sameConfiguration _).configured hs)
    · exact hs
  | _ => cases hc

theorem exec_reset_configured {c : Instr} {s t : State} (hc : commandClass c = .reset) (h : exec c s = .next t)
    (hs : s.configured) : t.configured := by
  cases c with
  | powerOnReset =>
    cases h
    exact s.beginReset_configured
  | rstAssert =>
    cases h
    exact s.beginReset_configured
  | resetEnd style msa below =>
    simp only [exec, execResetEnd] at h
    split at h
    · cases h
      exact s.endReset_configured style msa below
    · cases h
      exact hs
  | _ => cases hc

theorem exec_management_configured {c : Instr} {s t : State} (hc : commandClass c = .management)
    (h : exec c s = .next t) (hs : s.configured) : t.configured := by
  cases c with
  | managementAddressByte v =>
    simp only [exec, execManagementAddressByte] at h
    split at h
    · cases h
      exact hs
    · cases h
      exact (State.openTransaction_sameConfiguration _ v).configured
        (State.conclude_configured (State.endTransaction_configured hs) s)
  | pointerByte v =>
    simp only [exec, execPointerByte] at h
    exact State.configured_of_act_same h hs (s.takePointer_sameConfiguration v)
  | dataByte v =>
    simp only [exec, execDataByte] at h
    exact State.configured_of_act_same h hs (s.takeData_sameConfiguration v)
  | managementReadByte acknowledged =>
    simp only [exec, execManagementReadByte] at h
    exact State.configured_of_act_same h hs (s.sendByte_sameConfiguration acknowledged)
  | managementTransactionEnd =>
    simp only [exec, execManagementTransactionEnd] at h
    exact State.configured_of_act h hs (State.endTransaction_configured hs)
  | regionApply => exact State.configured_of_applyRow (isKind := ApplyKind.isRegion) h hs
  | watchApply => exact State.configured_of_applyRow (isKind := ApplyKind.isWatch) h hs
  | settingsApply => exact State.configured_of_applyRow (isKind := fun k => decide (k = .settings)) h hs
  | eventFlagClear => exact State.configured_of_applyRow (isKind := fun k => decide (k = .eventFlagClear)) h hs
  | faultRecordEmpty => exact State.configured_of_applyRow (isKind := fun k => decide (k = .faultRecordEmpty)) h hs
  | readOnlyApply => exact State.configured_of_applyRow (isKind := fun k => decide (k = .readOnly)) h hs
  | commandArgumentStore => exact State.configured_of_applyRow (isKind := fun k => decide (k = .argumentStore)) h hs
  | flush => exact State.configured_of_applyRow (isKind := fun k => decide (k = .flush)) h hs
  | barrier => exact State.configured_of_applyRow (isKind := fun k => decide (k = .barrier)) h hs
  | retry => exact State.configured_of_applyRow (isKind := fun k => decide (k = .retry)) h hs
  | discard => exact State.configured_of_applyRow (isKind := fun k => decide (k = .discard)) h hs
  | dropClean => exact State.configured_of_applyRow (isKind := fun k => decide (k = .dropClean)) h hs
  | reprobe => exact State.configured_of_applyRow (isKind := fun k => decide (k = .reprobe)) h hs
  | unknownCommand => exact State.configured_of_applyRow (isKind := fun k => decide (k = .unknown)) h hs
  | _ => cases hc

theorem State.arbiterStart_sameConfiguration (s : State) : s.SameConfiguration s.arbiterStart := by
  unfold State.arbiterStart
  split <;> exact .of_frame ⟨rfl, rfl, rfl, rfl, rfl⟩

theorem State.freeLink_sameConfiguration (s : State) (l : LinkOperation) : s.SameConfiguration (s.freeLink l) :=
  .of_frame (by simp)

/-- The rows that act on a device and not on the operation on the link. -/
theorem exec_deviceRow_configured {c : Instr} {d : Fin 4} {s t : State} (hc : commandClass c = .pageLink (some d))
    (h : exec c s = .next t) (hs : s.configured) : t.configured := by
  cases c with
  | pollDue d =>
    simp only [exec, execPollDue] at h
    refine State.configured_of_act_same h hs ?_
    split
    · exact .refl s
    · split
      · exact .refl s
      · exact .of_frame (by simp)
  | programTimeout d =>
    simp only [exec, execProgramTimeout] at h
    refine State.configured_of_act_same h hs ?_
    split
    · exact .refl s
    · split
      · exact (s.advanceTo_sameConfiguration _).trans (State.programTimedOut_sameConfiguration _ d)
      · exact .refl s
  | probeSelectDue d =>
    simp only [exec, execProbeSelectDue] at h
    refine State.configured_of_act_same h hs ?_
    split
    · exact .refl s
    · split
      · exact .refl s
      · exact .of_frame (by simp)
  | probeDeadline d =>
    simp only [exec, execProbeDeadline] at h
    refine State.configured_of_act_same h hs ?_
    split
    · exact .refl s
    · split
      · exact s.advanceTo_sameConfiguration _
      · exact (s.advanceTo_sameConfiguration _).trans (State.deviceAbsent_sameConfiguration _ d)
  | _ => cases hc

theorem exec_pageFetchComplete_configured {data : PageBytes} {s t : State}
    (h : exec (.pageFetchComplete data) s = .next t) (hs : s.configured) : t.configured := by
  simp only [exec, execPageFetchComplete] at h
  refine State.configured_of_act_same h hs ?_
  split
  · exact .refl s
  · rename_i l _
    split
    · split
      · exact (s.readCompleted_sameConfiguration l).trans (State.fetchComplete_sameConfiguration _ _ data)
      · exact s.readCompleted_sameConfiguration l
    all_goals exact .refl s

theorem exec_checkReadComplete_configured {data : PageBytes} {s t : State}
    (h : exec (.checkReadComplete data) s = .next t) (hs : s.configured) : t.configured := by
  simp only [exec, execCheckReadComplete] at h
  refine State.configured_of_act_same h hs ?_
  split
  · exact .refl s
  · rename_i l _
    split
    · refine (s.readCompleted_sameConfiguration l).trans ?_
      split
      · split
        · exact .of_frame (by simp)
        · exact State.afterFailure_sameConfiguration _ _ fun u => u.startChoice_sameConfiguration _
      · exact .refl _
    all_goals exact .refl s

theorem exec_streamReadComplete_configured {data : Vector Byte 16} {s t : State}
    (h : exec (.streamReadComplete data) s = .next t) (hs : s.configured) : t.configured := by
  simp only [exec, execStreamReadComplete] at h
  refine State.configured_of_act_same h hs ?_
  split
  · exact .refl s
  · rename_i l _
    split
    · exact (s.readCompleted_sameConfiguration l).trans (.of_frame (by simp))
    all_goals exact .refl s

theorem exec_descriptorReadComplete_configured {data : PageBytes} {s t : State}
    (h : exec (.descriptorReadComplete data) s = .next t) (hs : s.configured) : t.configured := by
  simp only [exec, execDescriptorReadComplete] at h
  refine State.configured_of_act_same h hs ?_
  split
  · exact .refl s
  · rename_i l _
    split
    · exact (s.readCompleted_sameConfiguration l).trans (.of_frame ⟨rfl, rfl, rfl, rfl, rfl⟩)
    all_goals exact .refl s

theorem exec_linkRow_configured {c : Instr} {s t : State} (hc : commandClass c = .pageLink none)
    (h : exec c s = .next t) (hs : s.configured) : t.configured := by
  cases c with
  | pageFetchComplete data => exact exec_pageFetchComplete_configured h hs
  | checkReadComplete data => exact exec_checkReadComplete_configured h hs
  | streamReadComplete data => exact exec_streamReadComplete_configured h hs
  | descriptorReadComplete data => exact exec_descriptorReadComplete_configured h hs
  | arbiterStart =>
    simp only [exec, execArbiterStart] at h
    exact State.configured_of_act_same h hs s.arbiterStart_sameConfiguration
  | transferError byteIndex =>
    simp only [exec, execTransferError] at h
    refine State.configured_of_act_same h hs ?_
    split
    · exact .refl s
    · rename_i l _
      split
      case h_1 => exact .refl s
      case h_2 => exact .refl s
      all_goals
        split
        · exact s.transferBroken_sameConfiguration l byteIndex
        · exact .refl s
  | programComplete =>
    simp only [exec, execProgramComplete] at h
    refine State.configured_of_act_same h hs ?_
    split
    · exact .refl s
    · rename_i l _
      split
      · refine .trans ((s.freeLink_sameConfiguration l).trans
          (State.moveCounter_sameConfiguration _ l (programEndAddress l.operation))) ?_
        split
        · exact State.enterBusy_sameConfiguration _ _ _
        · exact .refl _
      all_goals exact .refl s
  | pollAcknowledge =>
    simp only [exec, execPollAcknowledge] at h
    refine State.configured_of_act_same h hs ?_
    split
    · exact .refl s
    · rename_i l _
      split
      · exact (s.freeLink_sameConfiguration l).trans (State.pollAcknowledged_sameConfiguration _ _)
      all_goals exact .refl s
  | pollRefuse =>
    simp only [exec, execPollRefuse] at h
    refine State.configured_of_act_same h hs ?_
    split
    · exact .refl s
    · rename_i l _
      split
      · exact (s.freeLink_sameConfiguration l).trans (State.pollRefused_sameConfiguration _ _)
      all_goals exact .refl s
  | probeSelectAcknowledge =>
    simp only [exec, execProbeSelectAcknowledge] at h
    refine State.configured_of_act_same h hs ?_
    split
    · exact .refl s
    · rename_i l _
      split
      · exact (s.freeLink_sameConfiguration l).trans (State.setDevice_sameConfiguration rfl)
      all_goals exact .refl s
  | probeSelectRefuse =>
    simp only [exec, execProbeSelectRefuse] at h
    refine State.configured_of_act_same h hs ?_
    split
    · exact .refl s
    · rename_i l _
      split
      · exact (s.freeLink_sameConfiguration l).trans (State.probeRefused_sameConfiguration _ _)
      all_goals exact .refl s
  | _ => cases hc

theorem exec_configured {c : Instr} {s t : State} (h : exec c s = .next t) (hs : s.configured) : t.configured := by
  rcases hc : commandClass c with _ | device | _ | _ | _ | _
  · exact exec_hostBus_configured hc h hs
  · cases device with
    | none => exact exec_linkRow_configured hc h hs
    | some d => exact exec_deviceRow_configured hc h hs
  · exact exec_commits_configured hc h hs
  · exact exec_supply_configured hc h hs
  · exact exec_reset_configured hc h hs
  · exact exec_management_configured hc h hs

/-- Settles O55, row by row of the table: the applies and start-up install what has passed the guards' checks, and no
other effect and no consequence writes the configuration but to load or spend the budget count. -/
theorem stepKeepsConfiguration : Obligations.StepKeepsConfiguration := by
  intro s t hs h
  unfold step at h
  split at h
  · cases h
    exact State.SameConfiguration.configured (.of_frame ⟨rfl, rfl, rfl, rfl, rfl⟩) hs
  · exact exec_configured h (State.SameConfiguration.configured (.of_frame ⟨rfl, rfl, rfl, rfl, rfl⟩) hs)

end Sys2Proof.Machine
end

section
/-! PROOFS. The Region Decoder's answer to an access, and the refusals at the active edge (R9, R18, R19); the invariants at
reset. -/
namespace Sys2Proof.Machine

/-! ### The decode of a host address (R18) -/

theorem Region.covers_iff (r : Region) (page : Nat) :
    r.covers page = true ↔ r.enabled = true ∧ r.hostBase ≤ page ∧ page < r.hostBase + r.pageCount := by
  simp [Region.covers, and_assoc]

/-- What the Decoder makes of an address that region `n` takes. -/
def State.decodeBy (s : State) (n : Fin 8) (address : HostAddress) : Decode :=
  { region := n, device := s.regions[n].device
    address := s.regions[n].deviceBase * 64 + (address.toNat - s.regions[n].hostBase * 64)
    policy := s.regions[n].policy, wait := s.regions[n].wait }

/-- The decode is that of the lowest-numbered region whose host range holds the page. -/
theorem State.decode_eq (s : State) (address : HostAddress) : s.decode address =
    ((List.finRange 8).find? fun n => s.regions[n].covers (address.toNat / 64)).map (s.decodeBy · address) := by
  unfold State.decode
  cases (List.finRange 8).find? fun n => s.regions[n].covers (address.toNat / 64) <;> rfl

theorem State.decode_eq_none_iff (s : State) (address : HostAddress) :
    s.decode address = none ↔ ∀ n : Fin 8, s.regions[n].covers (address.toNat / 64) = false := by
  simp [s.decode_eq]

theorem State.decode_eq_some {s : State} {address : HostAddress} {d : Decode} (h : s.decode address = some d) :
    s.regions[d.region].covers (address.toNat / 64) = true ∧ d = s.decodeBy d.region address := by
  rw [s.decode_eq, Option.map_eq_some_iff] at h
  obtain ⟨n, hn, rfl⟩ := h
  have hcovers := List.find?_some hn
  exact ⟨hcovers, rfl⟩

/-! ### A refusal at the active edge (R9, R19) -/

/-- A refusal at the active edge eases the state: the access is DONE, and nothing but the Port and ACCESS_FAULT is
touched. -/
theorem State.eased_afterRefusal (s : State) (dir : Direction) (address : HostAddress) (data : Byte) (a : Access)
    (c : Cause) : s.Eased ((s.startAccess dir address data).afterRefusal a c) :=
  ⟨.inl rfl, fun _ => .refl _, rfl, rfl, rfl, rfl, rfl, rfl, rfl, rfl, rfl⟩

/-- HOST_ACCESS_START in RUNNING, where the hand-off refuses the access. -/
theorem exec_hostAccessStart_of_refused {s : State} {edge : ActiveEdge} {dir : Direction} {address : HostAddress}
    {data : Byte} {a : Access} {c : Cause} (hservice : s.inService) (hs : s.settled) (hpart : s.part = .running)
    (hidle : s.port.access = none) (hdir : activeDirection s.straps.style edge = some dir)
    (h : (s.startAccess dir address data).handOff = (s.startAccess dir address data).afterRefusal a c) :
    exec (.hostAccessStart edge true address data) s =
      .next ((s.startAccess dir address data).afterRefusal a c) := by
  obtain ⟨hr, -⟩ := hservice
  have received : (s.startAccess dir address data).receive = (s.startAccess dir address data).afterRefusal a c := by
    rw [State.receive, show (s.startAccess dir address data).part = .running from hpart]
    exact h
  rw [exec_hostAccessStart hr hidle hdir, received, (s.eased_afterRefusal dir address data a c).conclude hs]

/-- The write byte at the hand-off is the one latched at the active edge (R3). -/
theorem State.takeByte_newAccess (s : State) (dir : Direction) (address : HostAddress) (data : Byte) :
    (s.newAccess dir address).takeByte (s.startAccess dir address data).port.writeLatch =
      { s.newAccess dir address with writeByte := if dir = .write then some data else none } := by
  cases dir <;> rfl

theorem State.handOff_of_noRegion {s : State} {address : HostAddress} (dir : Direction) (data : Byte)
    (h : s.decode address = none) : (s.startAccess dir address data).handOff =
      (s.startAccess dir address data).afterRefusal
        { s.newAccess dir address with writeByte := if dir = .write then some data else none } .unmapped := by
  rw [State.handOff, show (s.startAccess dir address data).port.access = some (s.newAccess dir address) from rfl]
  dsimp only
  rw [show (s.startAccess dir address data).decode (s.newAccess dir address).address = none from h,
    s.takeByte_newAccess]
  exact State.refuse_of_pending rfl rfl _

theorem State.handOff_of_unwritable {s : State} {address : HostAddress} {d : Decode} (data : Byte)
    (h : s.decode address = some d) (hpolicy : d.policy = .readOnly ∨ d.policy = .stream) :
    (s.startAccess .write address data).handOff =
      (s.startAccess .write address data).afterRefusal (s.decodedAccess .write address data d) .readOnly := by
  rw [State.handOff, show (s.startAccess .write address data).port.access = some (s.newAccess .write address) from rfl]
  dsimp only
  rw [show (s.startAccess .write address data).decode (s.newAccess .write address).address = some d from h]
  dsimp only
  have owned : ∀ u : State, ∀ a : Access, a.direction = .write → u.toOwner a d = u.refuse .readOnly := by
    intro u a ha
    unfold State.toOwner
    rcases hpolicy with hp | hp <;> rw [ha, hp]
  rw [s.takeByte_newAccess, owned _ _ rfl]
  exact State.refuse_of_pending rfl rfl _

/-- Settles O8: the hand-off refuses the access at its active edge, and nothing follows a refusal there. -/
theorem unservedAccessIsRefused : Obligations.UnservedAccessIsRefused := by
  refine ⟨fun edge dir address data s hservice hs hpart hidle hdir hnone => ?_, fun edge address data d s h hs hd => ?_,
    fun address s => ⟨?_, fun d hd => ?_⟩⟩
  · exact exec_hostAccessStart_of_refused hservice hs hpart hidle hdir
      (State.handOff_of_noRegion dir data ((s.decode_eq_none_iff address).mpr hnone))
  · obtain ⟨hservice, hpart, hidle, hdir, hdecode⟩ := h
    exact exec_hostAccessStart_of_refused hservice hs hpart hidle hdir (State.handOff_of_unwritable data hdecode hd)
  · simp only [s.decode_eq_none_iff, ← Bool.not_eq_true, Region.covers_iff, not_and, not_lt]
  · obtain ⟨hcovers, heq⟩ := State.decode_eq_some hd
    obtain ⟨he, hbase, hend⟩ := (Region.covers_iff _ _).mp hcovers
    refine ⟨he, hbase, hend, ?_⟩
    rw [heq]
    exact ⟨rfl, rfl, rfl, rfl⟩

/-! ### The machine right after reset -/

theorem State.reset_configured : State.reset.configured :=
  State.SameConfiguration.configured (s := State.held)
    ⟨rfl, rfl, by decide, rfl, le_rfl, fun _ => rfl⟩ State.held_configured

theorem State.reset_coherent : State.reset.coherent := by
  refine ⟨by decide, by decide, by decide, by decide, by decide, by decide, by decide⟩

/-- The probes of start-up are in progress, so start-up has nothing to go on with. -/
theorem State.reset_settled : State.reset.settled := by
  have probing : State.reset.probing = true := by decide
  have startup : State.reset.settleStartup = none := by
    simp [State.settleStartup, show State.reset.startup.phase = .probe from rfl, probing]
  exact State.settled_iff.mpr ⟨rfl, rfl, rfl, rfl, rfl, startup⟩

/-- Settles O60: every block stands at its reset values. -/
theorem invariantsHoldAtReset : Obligations.InvariantsHoldAtReset :=
  ⟨State.reset_configured, State.reset_coherent, rfl, fun _ => rfl, by decide, State.reset_settled⟩

end Sys2Proof.Machine
end

section
/-! PROOFS. The applies of the management link that leave a settled state settled, and the region apply with its checks
(R25, R171, R172, R191). -/
namespace Sys2Proof.Machine

/-! ### What the conditions of the consequences read -/

/-- `u` has each field that a condition of a consequence reads as `s` has it. The clock, the pins, the region table, the
transmit store, the watches, the flags and the management record are no such fields. -/
structure State.SameConditions (s u : State) : Prop where
  resetHeld : u.resetHeld = s.resetHeld
  part : u.part = s.part
  startup : u.startup = s.startup
  port : u.port = s.port
  settings : u.settings = s.settings
  buffers : u.buffers = s.buffers
  recency : u.recency = s.recency
  queue : u.queue = s.queue
  devices : u.devices = s.devices
  requests : u.requests = s.requests
  link : u.link = s.link
  stream : u.stream = s.stream
  supply : u.supply = s.supply

section SameConditions
variable {s u : State}

theorem State.SameConditions.waiting (h : s.SameConditions u) : u.waiting = s.waiting := State.waiting_congr h.port

theorem State.SameConditions.blocked (h : s.SameConditions u) (b : Fin 16) : u.blocked b = s.blocked b := by
  have failed : u.isFailed = s.isFailed := funext fun b' => by simp only [State.isFailed, h.buffers]
  simp only [State.blocked, h.queue, failed]

theorem State.SameConditions.budgetSpent (h : s.SameConditions u) : u.budgetSpent = s.budgetSpent := by
  simp only [State.budgetSpent, h.part, h.supply]

theorem State.SameConditions.shortCondition (h : s.SameConditions u) : u.shortCondition = s.shortCondition := by
  simp only [State.shortCondition, h.budgetSpent, h.buffers, h.queue]

theorem State.SameConditions.startable (h : s.SameConditions u) (x : DeviceState) (b : Fin 16) :
    u.startable x b = s.startable x b := by
  have headDirty : u.headDirty = s.headDirty := by
    unfold State.headDirty
    rw [h.queue, h.buffers]
  have wanted : u.wanted b = s.wanted b := by
    unfold State.wanted State.causeIn State.lowOnBuffers State.evictableCount
    rw [headDirty, h.part, h.settings, h.buffers, h.queue]
  have committing : u.deviceCommitting = s.deviceCommitting := by
    unfold State.deviceCommitting State.deviceOfBuffer
    rw [h.buffers]
  unfold State.startable State.deviceOfBuffer
  rw [wanted, committing, h.budgetSpent, h.buffers, h.queue, h.devices]

/-- Whether an access is resolved again depends on the access alone. -/
theorem State.SameConditions.resolveAgain (h : s.SameConditions u) (hs : s.resolveAgain = none) :
    u.resolveAgain = none := by
  unfold State.resolveAgain at hs ⊢
  rw [h.port]
  repeat' split at hs
  all_goals simp_all

theorem State.SameConditions.settleAccess (h : s.SameConditions u) (hs : s.settleAccess = none) :
    u.settleAccess = none := by
  unfold State.settleAccess at hs ⊢
  rw [h.waiting]
  cases hw : s.waiting with
  | none => rfl
  | some w =>
    rw [hw] at hs
    cases w with
    | handOff => rfl
    | buffer => rfl
    | crossGeneration b =>
      simp only [State.settleHeldWrite, State.isFailed, h.queue, h.buffers, h.blocked] at hs ⊢
      split at hs <;> simp_all [h.resolveAgain]
    | entry b =>
      simp only [State.settleWriteThrough, State.isFailed, h.queue, h.buffers] at hs ⊢
      split at hs <;> simp_all
    | fetch b =>
      simp only [State.settleFetchRead, h.buffers] at hs ⊢
      split at hs <;> simp_all [h.resolveAgain]
    | streamByte =>
      simp only [State.settleDemandRead, h.stream] at hs ⊢
      split at hs <;> simp_all

theorem State.SameConditions.settleBufferWait (h : s.SameConditions u) (hs : s.settleBufferWait = none) :
    u.settleBufferWait = none := by
  have victim : u.victim = s.victim := by simp only [State.victim, h.buffers, h.recency]
  have test : u.noBufferTest = s.noBufferTest := by simp only [State.noBufferTest, h.buffers, h.blocked]
  unfold State.settleBufferWait at hs ⊢
  rw [h.waiting, victim, test]
  repeat' split at hs
  all_goals simp_all [h.resolveAgain]

theorem State.SameConditions.settleStartup (h : s.SameConditions u) (hs : s.settleStartup = none) :
    u.settleStartup = none := by
  have probing : u.probing = s.probing := by simp only [State.probing, h.devices]
  have reading : u.readingDescriptor = s.readingDescriptor := by
    simp only [State.readingDescriptor, State.requested, State.onLink, h.requests, h.link]
  unfold State.settleStartup at hs ⊢
  rw [h.resetHeld, h.startup, probing, reading]
  repeat' split at hs
  all_goals simp_all

/-- A settled state stays settled while the fields that the conditions read stand. -/
theorem State.SameConditions.settled (h : s.SameConditions u) (hs : s.settled) : u.settled := by
  obtain ⟨haccess, hflush, hfill, hqueue, hbuffer, hstart⟩ := State.settled_iff.mp hs
  refine State.settled_iff.mpr ⟨h.settleAccess haccess, ?_, ?_, ?_, h.settleBufferWait hbuffer, h.settleStartup hstart⟩
  · simpa [State.settleFlush, State.flushComplete, h.queue, h.buffers] using hflush
  · simpa [State.settleFill, State.engineWaits, h.budgetSpent, h.buffers] using hfill
  · simpa [State.settleQueue, State.eligible, State.meetsButForDevice, h.queue, h.startable] using hqueue

/-- A command that writes none of those fields has no further effect on a settled state. -/
theorem State.SameConditions.conclude (h : s.SameConditions u) (hs : s.settled) : u.conclude s = u :=
  State.conclude_of_settled (h.settled hs) (by rw [h.shortCondition]; cases s.shortCondition <;> simp)

end SameConditions

/-! ### The eight bytes of a region entry (R191, 12 section 12.4) -/

theorem Policy.ofCode_eq_none_iff (code : Nat) : Policy.ofCode code = none ↔ code > 3 := by
  unfold Policy.ofCode
  split <;> simp
  rename_i h0 h1 h2 h3
  by_contra hle
  have : code = 0 ∨ code = 1 ∨ code = 2 ∨ code = 3 := by omega
  simp_all

/-- The VALUE check fails at the values that R191 names. -/
theorem Region.ofBytes_eq_none_iff (v : Vector Byte 8) : Region.ofBytes v = none ↔ regionValueFails v := by
  unfold Region.ofBytes regionValueFails
  dsimp only
  cases hp : Policy.ofCode (bits v[6] 6 4) with
  | none => simp [(Policy.ofCode_eq_none_iff _).mp hp]
  | some policy =>
    have hcode : ¬ bits v[6] 6 4 > 3 := by simp [← Policy.ofCode_eq_none_iff, hp]
    simp only [ite_eq_left_iff, reduceCtorEq, imp_false, not_not, hcode, or_false]

/-- A flag in bit 7 above a number of at most six bits. -/
theorem bits_flag_number : ∀ (flag : Bool) (n : Fin 64),
    bits (bitAt flag 7 ||| byte n) 5 0 = n ∧ (bitAt flag 7 ||| byte n).getLsbD 7 = flag := by decide

theorem bits_flag_code : ∀ (flag : Bool) (n : Fin 16), bits (bitAt flag 7 ||| byte n) 3 0 = n := by decide

theorem bits_byte : ∀ n : Fin 128, bits (byte n) 6 0 = n := by decide

theorem bits_device_number : ∀ (d : Fin 4) (n : Fin 16),
    bits (byte (d.val * 64) ||| byte n) 3 0 = n ∧ deviceOf (byte (d.val * 64) ||| byte n) 6 = d := by decide

theorem bits_policy_wait (policy : Policy) : ∀ n : Fin 16,
    Policy.ofCode (bits (byte (policy.code * 16) ||| byte n) 6 4) = some policy ∧
      bits (byte (policy.code * 16) ||| byte n) 3 0 = n := by
  cases policy <;> decide

theorem byte_toNat (n : Nat) : (byte n).toNat = n % 256 := BitVec.toNat_ofNat n 8

/-- A region entry with its fields in range reads back from its eight bytes. -/
theorem Region.ofBytes_toBytes {r : Region} (h : r.inRange) : Region.ofBytes r.toBytes = some r := by
  obtain ⟨hhost, hcount, hcount', hbase, hwait, hage⟩ := h
  obtain ⟨hosthigh, enabled⟩ := bits_flag_number r.enabled ⟨r.hostBase / 256, by omega⟩
  obtain ⟨-, verify⟩ := bits_flag_number r.verify ⟨r.ageCode, by omega⟩
  have age := bits_flag_code r.verify ⟨r.ageCode, by omega⟩
  have counthigh := bits_byte ⟨r.pageCount / 256, by omega⟩
  obtain ⟨basehigh, device⟩ := bits_device_number r.device ⟨r.deviceBase / 256, by omega⟩
  obtain ⟨policy, wait⟩ := bits_policy_wait r.policy ⟨r.wait, by omega⟩
  have host : r.hostBase / 256 * 256 + r.hostBase % 256 = r.hostBase := Nat.div_add_mod' _ _
  have count : r.pageCount / 256 * 256 + r.pageCount % 256 = r.pageCount := Nat.div_add_mod' _ _
  have base : r.deviceBase / 256 * 256 + r.deviceBase % 256 = r.deviceBase := Nat.div_add_mod' _ _
  have value : ¬ (r.pageCount = 0 ∨ r.pageCount > 16384 ∨ r.deviceBase > 2047) := by omega
  have b0 : r.toBytes[0] = bitAt r.enabled 7 ||| byte (r.hostBase / 256) := rfl
  have b1 : r.toBytes[1] = byte r.hostBase := rfl
  have b2 : r.toBytes[2] = byte (r.pageCount / 256) := rfl
  have b3 : r.toBytes[3] = byte r.pageCount := rfl
  have b4 : r.toBytes[4] = byte (r.device.val * 64) ||| byte (r.deviceBase / 256) := rfl
  have b5 : r.toBytes[5] = byte r.deviceBase := rfl
  have b6 : r.toBytes[6] = byte (r.policy.code * 16) ||| byte r.wait := rfl
  have b7 : r.toBytes[7] = bitAt r.verify 7 ||| byte r.ageCode := rfl
  simp only [Region.ofBytes, b0, b1, b2, b3, b4, b5, b6, b7, byte_toNat, hosthigh, enabled, verify, age, counthigh,
    basehigh, device, policy, wait, host, count, base, value, if_false]

/-! ### The rows that apply a shadow (R171, R172) -/

/-- The row of an apply ends the transaction: the shadow is applied and the transaction closed. -/
theorem State.applyRow_of_applies {s : State} {x : Shadow} {k : ApplyKind} {isKind : ApplyKind → Bool}
    (hr : s.resetHeld = false) (h : s.applies x k) (hk : isKind k = true) :
    s.applyRow isKind = .next ((s.applyShadow x).closeTransaction.conclude s) := by
  obtain ⟨hx, rfl⟩ := h
  simp [State.applyRow, State.act_of_released hr, State.endTransaction, hx, hk]

/-- An apply that writes no field that a consequence's condition reads has no further effect on a settled state. -/
theorem State.applyRow_of_sameConditions {s : State} {x : Shadow} {k : ApplyKind} {isKind : ApplyKind → Bool}
    (hr : s.resetHeld = false) (hs : s.settled) (h : s.applies x k) (hk : isKind k = true)
    (hsame : s.SameConditions (s.applyShadow x).closeTransaction) :
    s.applyRow isKind = .next (s.applyShadow x).closeTransaction := by
  rw [State.applyRow_of_applies hr h hk, hsame.conclude hs]

/-- A refused apply sets the apply status and closes the transaction (R172). -/
theorem State.applyRow_of_refused {s : State} {x : Shadow} {k : ApplyKind} {isKind : ApplyKind → Bool}
    {status : ApplyStatus} (hr : s.resetHeld = false) (hs : s.settled) (h : s.applies x k) (hk : isKind k = true)
    (hx : s.applyShadow x = s.applied status) : s.applyRow isKind = .next
      { s with management := s.management.closed status s.management.commandStatus } := by
  have hsame : s.SameConditions (s.applyShadow x).closeTransaction := by
    rw [hx]
    exact ⟨rfl, rfl, rfl, rfl, rfl, rfl, rfl, rfl, rfl, rfl, rfl, rfl, rfl⟩
  rw [State.applyRow_of_sameConditions hr hs h hk hsame, hx]
  rfl

/-! ### The checks of a region apply (R25) -/

theorem State.applyShadow_region {s : State} {x : Shadow} {n : Fin 8} (hk : x.kind = .region n) :
    s.applyShadow x = s.applyRegion n x := by
  rw [State.applyShadow, hk]

theorem Region.within_iff (r : Region) (c : Capacity) :
    r.within c = true ↔ r.hostBase + r.pageCount ≤ 16384 ∧ r.deviceBase + r.pageCount ≤ c.pages := by
  rw [Region.within, Bool.and_eq_true, decide_eq_true_eq, decide_eq_true_eq]
  rfl

theorem State.overlapsOther_iff (s : State) (n : Fin 8) (r : Region) : s.overlapsOther n r = true ↔
    ∃ m : Fin 8, m ≠ n ∧ s.regions[m].enabled = true ∧ r.overlaps s.regions[m] = true := by
  simp [State.overlapsOther, and_assoc]

theorem State.overlapsOther_eq_false {s : State} {n : Fin 8} {r : Region}
    (h : ∀ m : Fin 8, m ≠ n → s.regions[m].enabled = true → r.overlaps s.regions[m] = false) :
    s.overlapsOther n r = false := by
  rw [← Bool.not_eq_true, State.overlapsOther_iff]
  rintro ⟨m, hm, he, ho⟩
  exact Bool.false_ne_true ((h m hm he).symm.trans ho)

theorem State.regionBusy_iff (s : State) (n : Fin 8) :
    s.regionBusy n = true ↔ ∃ b : Fin 16, s.buffers[b].commitRegion = some n := by
  simp [State.regionBusy]

/-- No guarded field of an entry differs from itself (section 2.5). -/
theorem Region.guardedChanged_self (r : Region) : r.guardedChanged r = false := by
  simp [Region.guardedChanged]

section CheckRegion
variable {s : State} {n : Fin 8} {v : Vector Byte 8} {r : Region}

theorem State.checkRegion_of_value (h : regionValueFails v) : s.checkRegion n v = .error .value := by
  rw [State.checkRegion, (Region.ofBytes_eq_none_iff v).mpr h]

theorem State.checkRegion_of_range (hv : Region.ofBytes v = some r) (he : r.enabled = true)
    (h : r.within s.devices[r.device].capacity = false) : s.checkRegion n v = .error .range := by
  simp only [State.checkRegion, hv, he, h, Bool.not_false, Bool.and_self, if_true]

theorem State.checkRegion_of_overlap (hv : Region.ofBytes v = some r) (he : r.enabled = true)
    (hw : r.within s.devices[r.device].capacity = true) (h : s.overlapsOther n r = true) :
    s.checkRegion n v = .error .overlap := by
  simp only [State.checkRegion, hv, he, hw, h, Bool.not_true, Bool.and_false, Bool.and_self, Bool.false_eq_true,
    if_false, if_true]

/-- Past VALUE, RANGE and OVERLAP, which bear on an enabled region alone, only BUSY_REGION is left. -/
theorem State.checkRegion_of_free (hv : Region.ofBytes v = some r)
    (h : r.enabled = false ∨ r.within s.devices[r.device].capacity = true ∧ s.overlapsOther n r = false) :
    s.checkRegion n v =
      if s.regions[n].guardedChanged r && s.regionBusy n then .error .busyRegion else .ok r := by
  rcases h with he | ⟨hw, ho⟩
  · simp only [State.checkRegion, hv, he, Bool.false_and, Bool.false_eq_true, if_false]
  · simp only [State.checkRegion, hv, hw, ho, Bool.not_true, Bool.and_false, Bool.false_eq_true, if_false]

end CheckRegion

/-- The entry as it stands passes every check (R25). -/
theorem State.checkRegion_of_identical {s : State} {n : Fin 8} (hs : s.configured) :
    s.checkRegion n s.regions[n].toBytes = .ok s.regions[n] := by
  obtain ⟨hregions, -, hwithin, hapart, -⟩ := hs
  have hv := Region.ofBytes_toBytes (hregions n)
  have free : s.regions[n].enabled = false ∨
      s.regions[n].within s.devices[s.regions[n].device].capacity = true ∧ s.overlapsOther n s.regions[n] = false := by
    cases he : s.regions[n].enabled with
    | false => exact .inl rfl
    | true =>
      exact .inr ⟨hwithin n he, State.overlapsOther_eq_false fun m hm hme => hapart n m hm.symm he hme⟩
  rw [State.checkRegion_of_free hv free, Region.guardedChanged_self]
  rfl

/-- Settles O44: each check by the region it looks at, and an apply that writes the table and its own record alone. -/
theorem regionApplyIsGuarded : Obligations.RegionApplyIsGuarded := by
  intro x n s hr hs h
  have hshadow := State.applyShadow_region (s := s) h.2
  refine ⟨fun status hc => ?_, fun r hc => ?_, State.checkRegion_of_value, fun r hv => ⟨?_, ?_, ?_⟩, ?_⟩
  · have refused : s.applyShadow x = s.applied status := by rw [hshadow, State.applyRegion, hc]
    exact State.applyRow_of_refused (isKind := ApplyKind.isRegion) hr hs h rfl refused
  · have taken : s.applyShadow x = { s with regions := s.regions.set n r }.applied .accepted := by
      rw [hshadow, State.applyRegion, hc]
    have hsame : s.SameConditions (s.applyShadow x).closeTransaction := by
      rw [taken]
      exact ⟨rfl, rfl, rfl, rfl, rfl, rfl, rfl, rfl, rfl, rfl, rfl, rfl, rfl⟩
    have row := State.applyRow_of_sameConditions (isKind := ApplyKind.isRegion) hr hs h rfl hsame
    rw [taken] at row
    exact row
  · intro he hbeyond
    refine State.checkRegion_of_range hv he ?_
    rw [← Bool.not_eq_true, Region.within_iff]
    omega
  · intro he hhost hdevice ho
    exact State.checkRegion_of_overlap hv he ((Region.within_iff _ _).mpr ⟨hhost, hdevice⟩)
      ((State.overlapsOther_iff _ _ _).mpr ho)
  · intro hfree
    have free := hfree.imp_right fun ⟨hhost, hdevice, ho⟩ =>
      And.intro ((Region.within_iff _ _).mpr ⟨hhost, hdevice⟩) (State.overlapsOther_eq_false ho)
    rw [State.checkRegion_of_free hv free]
    simp only [Bool.and_eq_true, State.regionBusy_iff]
  · intro hconfigured hbytes
    rw [hbytes]
    exact State.checkRegion_of_identical hconfigured

end Sys2Proof.Machine
end

section
/-! PROOFS. The settings apply: its checks, what a changed capacity does to device records and buffers, and what the
consequences of the step leave of it (R30, R31, R143, R161, R173). -/
namespace Sys2Proof.Machine

/-! ### The eight bytes of the settings (R191) -/

theorem Capacity.ofCode_eq_none_iff {code : Nat} (h : code < 4) : Capacity.ofCode code = none ↔ code = 3 := by
  interval_cases code <;> simp [Capacity.ofCode]

theorem capacitiesOf_eq_none_iff (v : Byte) : capacitiesOf v = none ↔
    bits v 1 0 = 3 ∨ bits v 3 2 = 3 ∨ bits v 5 4 = 3 ∨ bits v 7 6 = 3 := by
  rw [← Capacity.ofCode_eq_none_iff (bits_lt v 1 0), ← Capacity.ofCode_eq_none_iff (bits_lt v 3 2),
    ← Capacity.ofCode_eq_none_iff (bits_lt v 5 4), ← Capacity.ofCode_eq_none_iff (bits_lt v 7 6)]
  unfold capacitiesOf
  split
  · rename_i h0 h1 h2 h3
    simp [h0, h1, h2, h3]
  · rename_i h
    simp only [true_iff]
    by_contra hsome
    simp only [not_or, Option.ne_none_iff_exists'] at hsome
    obtain ⟨⟨c0, h0⟩, ⟨c1, h1⟩, ⟨c2, h2⟩, ⟨c3, h3⟩⟩ := hsome
    exact h c0 c1 c2 c3 h0 h1 h2 h3

/-- The VALUE check fails at the values that R191 names. -/
theorem Settings.ofBytes_eq_none_iff (v : Vector Byte 8) : Settings.ofBytes v = none ↔ settingsValueFails v := by
  unfold Settings.ofBytes
  cases hc : capacitiesOf v[5] with
  | none =>
    have hcodes := (capacitiesOf_eq_none_iff _).mp hc
    simp only [settingsValueFails, hcodes, or_true]
  | some capacities =>
    have hcodes : ¬ (bits v[5] 1 0 = 3 ∨ bits v[5] 3 2 = 3 ∨ bits v[5] 5 4 = 3 ∨ bits v[5] 7 6 = 3) := by
      simp [← capacitiesOf_eq_none_iff, hc]
    simp only [settingsValueFails, hcodes, or_false, ite_eq_left_iff, reduceCtorEq, imp_false, not_not]

/-! ### The checks of a settings apply (R30) -/

theorem State.capacityCuts_iff (s : State) (new : Vector Capacity 4) :
    ((List.finRange 4).any fun d => s.capacityChanged new d && s.capacityCutsRegion d new[d]) = true ↔
      ∃ n : Fin 8, s.regions[n].enabled = true ∧
        s.devices[s.regions[n].device].capacity ≠ new[s.regions[n].device] ∧
        new[s.regions[n].device].pages < s.regions[n].deviceBase + s.regions[n].pageCount := by
  simp only [List.any_eq_true, List.mem_finRange, true_and, Bool.and_eq_true, State.capacityChanged,
    State.capacityCutsRegion, decide_eq_true_eq, gt_iff_lt]
  constructor
  · rintro ⟨d, hd, n, ⟨he, rfl⟩, hpages⟩
    exact ⟨n, he, hd, hpages⟩
  · rintro ⟨n, he, hd, hpages⟩
    exact ⟨_, hd, n, ⟨he, rfl⟩, hpages⟩

theorem State.deviceBusy_iff (s : State) (d : Fin 4) : s.deviceBusy d = true ↔
    (∃ b : Fin 16, s.buffers[b].tag.map (·.device) = some d ∧ (s.buffers[b].state = .dirty ∨
        s.buffers[b].state = .committing ∨ s.buffers[b].state = .failed ∨ s.buffers[b].fill = true)) ∨
      (s.waiting ≠ none ∧ s.accessDecode.map (·.device) = some d) := by
  simp only [State.deviceBusy, PageBuffer.holdsDevice, Bool.or_eq_true, Bool.and_eq_true, List.any_eq_true,
    List.mem_finRange, true_and, decide_eq_true_eq, or_assoc, Option.isSome_iff_ne_none]

theorem State.changedBusy_iff (s : State) (new : Vector Capacity 4) :
    ((List.finRange 4).any fun d => s.capacityChanged new d && s.deviceBusy d) = true ↔
      ∃ d : Fin 4, s.devices[d].capacity ≠ new[d] ∧ s.deviceBusy d = true := by
  simp only [List.any_eq_true, List.mem_finRange, true_and, Bool.and_eq_true, State.capacityChanged, decide_eq_true_eq]

/-- Past VALUE, RANGE and BUSY_REGION are left, over the changed capacities. -/
theorem State.checkSettings_of_value {s : State} {v : Vector Byte 8} {new : Settings} {capacities : Vector Capacity 4}
    (h : Settings.ofBytes v = some (new, capacities)) : s.checkSettings v =
      if (List.finRange 4).any fun d => s.capacityChanged capacities d && s.capacityCutsRegion d capacities[d]
      then .error .range
      else if (List.finRange 4).any fun d => s.capacityChanged capacities d && s.deviceBusy d then .error .busyRegion
      else .ok (new, capacities) := by
  rw [State.checkSettings, h]

/-! ### Buffers freed beyond a capacity (R31) -/

theorem State.buffers_setBuffer (s : State) (b b' : Fin 16) (x : PageBuffer) :
    (s.setBuffer b x).buffers[b'] = if b' = b then x else s.buffers[b'] :=
  vector_set_fin s.buffers b b' x

/-- `t` differs from `s` in no buffer but `b`. -/
abbrev State.SameBuffersBut (b : Fin 16) (s t : State) : Prop := ∀ b' : Fin 16, b' ≠ b → t.buffers[b'] = s.buffers[b']

theorem State.SameBuffersBut.trans {b : Fin 16} {s t u : State} (h : s.SameBuffersBut b t) (h' : t.SameBuffersBut b u) :
    s.SameBuffersBut b u :=
  fun b' hb => (h' b' hb).trans (h b' hb)

theorem State.SameBuffersBut.of_eq {b : Fin 16} {s t : State} (h : t.buffers = s.buffers) : s.SameBuffersBut b t :=
  fun b' _ => by rw [h]

theorem State.setBuffer_sameBuffersBut (s : State) (b : Fin 16) (x : PageBuffer) :
    s.SameBuffersBut b (s.setBuffer b x) :=
  fun b' hb => by rw [State.buffers_setBuffer, if_neg hb]

theorem State.cancelFetch_sameBuffersBut (s : State) (b : Fin 16) : s.SameBuffersBut b (s.cancelFetch b) :=
  s.setBuffer_sameBuffersBut b _

theorem State.removeEntry_sameBuffersBut (s : State) (b : Fin 16) : s.SameBuffersBut b (s.removeEntry b) := by
  unfold State.removeEntry
  dsimp only
  split <;> exact s.setBuffer_sameBuffersBut b _

theorem State.orphanFetch_buffers (s : State) (b : Fin 16) : (s.orphanFetch b).buffers = s.buffers := by simp

theorem State.freeBuffer_buffers (s : State) (b b' : Fin 16) :
    (s.freeBuffer b).buffers[b'] = if b' = b then PageBuffer.freed else s.buffers[b'] := by
  have removed : s.SameBuffersBut b (if Queue.hasEntry s.queue b then s.removeEntry b else s) := by
    split
    · exact s.removeEntry_sameBuffersBut b
    · exact .of_eq rfl
  have cancelled := removed.trans (State.cancelFetch_sameBuffersBut _ b)
  have orphaned := cancelled.trans (.of_eq (State.orphanFetch_buffers _ b))
  by_cases hb : b' = b
  · rw [if_pos hb, hb]
    exact (State.buffers_setBuffer _ b b _).trans (if_pos rfl)
  · rw [if_neg hb]
    exact (orphaned.trans (State.setBuffer_sameBuffersBut _ b _)) b' hb

theorem State.freeBuffer_recency (s : State) (b : Fin 16) : (s.freeBuffer b).recency = s.recency.erase b := by
  unfold State.freeBuffer
  dsimp only
  split <;> simp

/-- `t` comes from `s` by freeing buffers: each record is as before, or freed and gone from the recency list (R38). -/
structure State.OnlyFrees (s t : State) : Prop where
  recency : t.recency.Sublist s.recency
  buffers : ∀ b : Fin 16, t.buffers[b] = s.buffers[b] ∨
    t.buffers[b] = PageBuffer.freed ∧ (s.recency.Nodup → b ∉ t.recency)

theorem State.OnlyFrees.of_eq {s t : State} (hr : t.recency = s.recency) (hb : t.buffers = s.buffers) : s.OnlyFrees t :=
  ⟨hr ▸ .refl _, fun b => .inl (by rw [hb])⟩

theorem State.OnlyFrees.trans {s t u : State} (h : s.OnlyFrees t) (h' : t.OnlyFrees u) : s.OnlyFrees u where
  recency := h'.recency.trans h.recency
  buffers b := by
    rcases h'.buffers b with heq | ⟨hfreed, hgone⟩
    · refine (h.buffers b).imp heq.trans fun ⟨hfreed, hgone⟩ => ⟨heq.trans hfreed, fun hn hb => ?_⟩
      exact hgone hn (h'.recency.subset hb)
    · exact .inr ⟨hfreed, fun hn => hgone (h.recency.nodup hn)⟩

theorem State.freeBuffer_onlyFrees (s : State) (b : Fin 16) : s.OnlyFrees (s.freeBuffer b) where
  recency := by
    rw [State.freeBuffer_recency]
    exact List.erase_sublist
  buffers b' := by
    rw [State.freeBuffer_buffers, State.freeBuffer_recency]
    by_cases hb : b' = b
    · rw [if_pos hb, hb]
      exact .inr ⟨rfl, fun hn => hn.not_mem_erase⟩
    · exact .inl (if_neg hb)

theorem State.foldl_onlyFrees {β : Type} {f : State → β → State} (h : ∀ (u : State) (b : β), u.OnlyFrees (f u b))
    (s : State) (l : List β) : s.OnlyFrees (l.foldl f s) :=
  foldl_invariant (P := s.OnlyFrees) (.of_eq rfl rfl) fun u b hu => hu.trans (h u b)

/-- Whether a capacity no longer holds the page of a CLEAN, unpinned buffer of device `d` (R31). -/
def PageBuffer.beyond (x : PageBuffer) (d : Fin 4) (c : Capacity) : Bool :=
  decide (x.state = .clean ∧ x.fill = false ∧
    x.tag.any (fun t => decide (t.device = d) && decide (t.page ≥ c.pages)) = true)

/-- The record after the change of a capacity. -/
def PageBuffer.cutTo (x : PageBuffer) (d : Fin 4) (c : Capacity) : PageBuffer :=
  if x.beyond d c then PageBuffer.freed else x

theorem State.freeBeyond_eq (s : State) (d : Fin 4) (c : Capacity) (b : Fin 16) :
    s.freeBeyond d c b = if s.buffers[b].beyond d c then s.freeBuffer b else s := by
  simp only [State.freeBeyond, PageBuffer.beyond, decide_eq_true_eq]

theorem State.freeBeyond_buffers (s : State) (d : Fin 4) (c : Capacity) (b b' : Fin 16) :
    (s.freeBeyond d c b).buffers[b'] = if b' = b then s.buffers[b].cutTo d c else s.buffers[b'] := by
  rw [State.freeBeyond_eq, PageBuffer.cutTo]
  by_cases hx : s.buffers[b].beyond d c = true
  · rw [if_pos hx, if_pos hx, State.freeBuffer_buffers]
  · rw [if_neg hx, if_neg hx]
    split
    · rename_i hb
      rw [hb]
    · rfl

theorem State.freeBeyond_onlyFrees (s : State) (d : Fin 4) (c : Capacity) (b : Fin 16) :
    s.OnlyFrees (s.freeBeyond d c b) := by
  rw [State.freeBeyond_eq]
  split
  · exact s.freeBuffer_onlyFrees b
  · exact .of_eq rfl rfl

theorem State.loseCounter_buffers (s : State) (d : Fin 4) : (s.loseCounter d).buffers = s.buffers := by simp

theorem State.streamCapacityChange_buffers (s : State) (d : Fin 4) :
    (s.streamCapacityChange d).buffers = s.buffers := by
  simp

theorem State.changeCapacity_buffers (s : State) (d : Fin 4) (c : Capacity) (b : Fin 16) :
    (s.changeCapacity d c).buffers[b] = s.buffers[b].cutTo d c := by
  have fold (u : State) : ((List.finRange 16).foldl (fun s b => s.freeBeyond d c b) u).buffers[b] =
      u.buffers[b].cutTo d c :=
    (foldl_pointwise (get := fun (u : State) (b : Fin 16) => u.buffers[b]) (g := fun _ x => x.cutTo d c)
      (fun s b b' => s.freeBeyond_buffers d c b b') (List.nodup_finRange 16) u b).trans (if_pos (List.mem_finRange b))
  unfold State.changeCapacity
  dsimp only
  rw [State.streamCapacityChange_buffers, fold, State.loseCounter_buffers, State.setDevice_buffers]

theorem State.streamCapacityChange_onlyFrees (s : State) (d : Fin 4) : s.OnlyFrees (s.streamCapacityChange d) :=
  .of_eq (by simp) (by simp)

theorem State.changeCapacity_onlyFrees (s : State) (d : Fin 4) (c : Capacity) : s.OnlyFrees (s.changeCapacity d c) := by
  unfold State.changeCapacity
  refine .trans ?_ (State.streamCapacityChange_onlyFrees _ d)
  refine .trans ?_ (State.foldl_onlyFrees (fun u b => u.freeBeyond_onlyFrees d c b) _ _)
  exact .of_eq (by simp) (by simp)

theorem State.takeCapacity_onlyFrees (new : Vector Capacity 4) (s : State) (d : Fin 4) :
    s.OnlyFrees (s.takeCapacity new d) := by
  unfold State.takeCapacity
  split
  · exact s.changeCapacity_onlyFrees d _
  · exact .of_eq rfl rfl

theorem State.takeCapacity_buffers (new : Vector Capacity 4) (s : State) (d : Fin 4) (b : Fin 16) :
    (s.takeCapacity new d).buffers[b] =
      if s.devices[d].capacity ≠ new[d] ∧ s.buffers[b].beyond d new[d] = true then PageBuffer.freed
      else s.buffers[b] := by
  unfold State.takeCapacity State.capacityChanged
  by_cases hd : s.devices[d].capacity = new[d]
  · rw [if_neg (by simpa using hd), if_neg fun h => h.1 hd]
  · rw [if_pos (by simpa using hd), State.changeCapacity_buffers, PageBuffer.cutTo]
    exact if_congr (and_iff_right hd).symm rfl rfl

/-- A buffer is freed where one of the devices named makes it so. -/
theorem State.foldl_takeCapacity_buffers (new : Vector Capacity 4) {l : List (Fin 4)} (hl : l.Nodup) (s : State)
    (b : Fin 16) : (l.foldl (State.takeCapacity new) s).buffers[b] =
      if ∃ d ∈ l, s.devices[d].capacity ≠ new[d] ∧ s.buffers[b].beyond d new[d] = true then PageBuffer.freed
      else s.buffers[b] := by
  induction l generalizing s with
  | nil => simp
  | cons d l ih =>
    obtain ⟨hd, hl⟩ := List.nodup_cons.mp hl
    have others : ∀ e ∈ l, (s.takeCapacity new d).devices[e] = s.devices[e] := fun e he => by
      rw [State.takeCapacity_devices, if_neg]
      rintro rfl
      exact hd he
    rw [List.foldl_cons, ih hl, State.takeCapacity_buffers]
    by_cases hb : s.devices[d].capacity ≠ new[d] ∧ s.buffers[b].beyond d new[d] = true
    · rw [if_pos hb, ite_self, if_pos ⟨d, List.mem_cons_self, hb⟩]
    · rw [if_neg hb]
      refine if_congr ⟨?_, ?_⟩ rfl rfl
      · rintro ⟨e, he, hc, hx⟩
        exact ⟨e, List.mem_cons_of_mem d he, others e he ▸ hc, hx⟩
      · rintro ⟨e, he, hc, hx⟩
        rcases List.mem_cons.mp he with rfl | he
        · exact absurd ⟨hc, hx⟩ hb
        · exact ⟨e, he, (others e he).symm ▸ hc, hx⟩

/-- A CLEAN buffer after the settings apply: freed where the capacity of its own device is changed and no longer holds
its page. -/
theorem State.installSettings_clean (s : State) (x : Settings) (new : Vector Capacity 4) {b : Fin 16}
    (hb : s.buffers[b].state = .clean) : (s.installSettings x new).buffers[b] =
      if s.buffers[b].fill = false ∧ s.buffers[b].tag.any (fun g =>
          decide (s.devices[g.device].capacity ≠ new[g.device]) && decide (new[g.device].pages ≤ g.page)) = true
      then PageBuffer.freed else s.buffers[b] := by
  rw [State.installSettings_eq, State.foldl_takeCapacity_buffers new (List.nodup_finRange 4)]
  refine if_congr ?_ rfl rfl
  simp only [PageBuffer.beyond, State.takeSettings, hb, List.mem_finRange, true_and, decide_eq_true_eq]
  cases s.buffers[b].tag with
  | none => simp
  | some g =>
    simp only [Option.any_some, Bool.and_eq_true, decide_eq_true_eq]
    constructor
    · rintro ⟨d, hc, hf, rfl, hp⟩
      exact ⟨hf, hc, hp⟩
    · rintro ⟨hf, hc, hp⟩
      exact ⟨_, hc, hf, rfl, hp⟩

theorem State.installSettings_onlyFrees (s : State) (x : Settings) (new : Vector Capacity 4) :
    s.OnlyFrees (s.installSettings x new) :=
  .trans (t := s.takeSettings x) (.of_eq rfl rfl) (State.foldl_onlyFrees (State.takeCapacity_onlyFrees new) _ _)

/-- A capacity change refuses nothing where no access waits (R143). -/
theorem State.streamCapacityChange_port {s : State} (h : s.waiting = none) (d : Fin 4) :
    (s.streamCapacityChange d).port = s.port := by
  unfold State.streamCapacityChange
  split
  · rw [if_neg (by rw [h]; exact nofun)]
    simp
  · rfl

theorem State.takeCapacity_waiting {s : State} (h : s.waiting = none) (new : Vector Capacity 4) (d : Fin 4) :
    (s.takeCapacity new d).waiting = none := by
  unfold State.takeCapacity
  split
  · unfold State.changeCapacity
    dsimp only
    have freed : ((List.finRange 16).foldl (fun s b => s.freeBeyond d new[d] b)
        ((s.setDevice d { s.devices[d] with capacity := new[d], counter := none }).loseCounter d)).port = s.port :=
      foldl_invariant (P := fun t : State => t.port = s.port) (by simp) fun t b ht => by simpa using ht
    exact (State.waiting_congr (State.streamCapacityChange_port ((State.waiting_congr freed).trans h) d)).trans
      ((State.waiting_congr freed).trans h)
  · exact h

theorem State.installSettings_waiting {s : State} (h : s.waiting = none) (x : Settings) (new : Vector Capacity 4) :
    (s.installSettings x new).waiting = none :=
  foldl_invariant (P := fun t : State => t.waiting = none) h fun _ d ht => State.takeCapacity_waiting ht new d

/-! ### The consequences leave the buffers without an entry alone -/

/-- `t` has the recency list of `s`, and the buffers of `s` that are FREE or CLEAN. -/
structure State.SameUnused (s t : State) : Prop where
  recency : t.recency = s.recency
  buffers : ∀ b : Fin 16, s.buffers[b].state.hasEntry = false → t.buffers[b] = s.buffers[b]

theorem State.SameUnused.trans {s t u : State} (h : s.SameUnused t) (h' : t.SameUnused u) : s.SameUnused u where
  recency := h'.recency.trans h.recency
  buffers b hb := (h'.buffers b (by rwa [h.buffers b hb])).trans (h.buffers b hb)

theorem State.SameUnused.of_eq {s t : State} (hr : t.recency = s.recency) (hb : t.buffers = s.buffers) :
    s.SameUnused t :=
  ⟨hr, fun b _ => by rw [hb]⟩

/-- What touches the record of a buffer with an entry alone. -/
theorem State.SameUnused.of_but {s t : State} {b : Fin 16} (hb : s.buffers[b].state.hasEntry = true)
    (hr : t.recency = s.recency) (h : s.SameBuffersBut b t) : s.SameUnused t where
  recency := hr
  buffers b' hb' := h b' (by rintro rfl; rw [hb] at hb'; cases hb')

theorem State.endDirty_sameBuffersBut (s : State) (b : Fin 16) : s.SameBuffersBut b (s.endDirty b) :=
  .trans (.of_eq (by simp)) (State.setBuffer_sameBuffersBut (s.withdrawCommit b) b _)

theorem State.becomeFailed_sameBuffersBut (s : State) (b : Fin 16) : s.SameBuffersBut b (s.becomeFailed b) :=
  .trans (.of_eq (by simp)) (State.setBuffer_sameBuffersBut (s.withdrawCommit b) b _)

theorem State.stopCommit_sameBuffersBut (s : State) (b : Fin 16) : s.SameBuffersBut b (s.stopCommit b) := by
  unfold State.stopCommit
  refine .trans ?_ (State.endDirty_sameBuffersBut _ b)
  split
  · exact s.cancelFetch_sameBuffersBut b
  · exact .of_eq rfl

theorem State.requestFetch_sameBuffersBut (s : State) (b : Fin 16) : s.SameBuffersBut b (s.requestFetch b) := by
  unfold State.requestFetch
  split
  · exact .of_eq rfl
  · exact s.setBuffer_sameBuffersBut b _

theorem State.enterFill_sameBuffersBut (s : State) (b : Fin 16) : s.SameBuffersBut b (s.enterFill b) := by
  unfold State.enterFill
  dsimp only
  split
  · exact s.setBuffer_sameBuffersBut b _
  · exact .trans (s.setBuffer_sameBuffersBut b _) (State.requestFetch_sameBuffersBut _ b)

theorem State.startSend_sameBuffersBut (s : State) (b : Fin 16) : s.SameBuffersBut b (s.startSend b) := by
  unfold State.startSend
  split
  · exact .of_eq rfl
  · exact s.setBuffer_sameBuffersBut b _

theorem State.enterSend_sameBuffersBut (s : State) (b : Fin 16) : s.SameBuffersBut b (s.enterSend b) := by
  unfold State.enterSend
  split
  · split
    · exact s.stopCommit_sameBuffersBut b
    · exact State.startSend_sameBuffersBut { s with supply := { s.supply with count := s.supply.count - 1 } } b
  · exact s.startSend_sameBuffersBut b

theorem State.startChoice_sameBuffersBut (s : State) (b : Fin 16) : s.SameBuffersBut b (s.startChoice b) := by
  unfold State.startChoice
  split
  · exact s.enterSend_sameBuffersBut b
  · exact s.enterFill_sameBuffersBut b

theorem State.startCommit_sameBuffersBut (s : State) (b : Fin 16) : s.SameBuffersBut b (s.startCommit b) := by
  refine .trans ?_ (State.startChoice_sameBuffersBut _ b)
  exact s.setBuffer_sameBuffersBut b _

/-- Only the entry of a DIRTY buffer starts a commit or is handed over (R71, R72). -/
theorem State.dirty_of_startable {s : State} {x : DeviceState} {b : Fin 16} (h : s.startable x b = true) :
    s.buffers[b].state = .dirty := by
  unfold State.startable at h
  split at h
  · cases h
  · simp only [Bool.and_eq_true, decide_eq_true_eq] at h
    obtain ⟨⟨⟨⟨⟨-, hd⟩, -⟩, -⟩, -⟩, -⟩ := h
    exact hd

theorem State.committing_of_engineWaits {s : State} {b : Fin 16} (h : s.engineWaits b = true) :
    s.buffers[b].state = .committing := by
  simp only [State.engineWaits, Bool.and_eq_true, decide_eq_true_eq] at h
  exact h.1

/-- Once start-up is over, a consequence leaves the start-up record and the device records alone. -/
theorem Drawn.sameDevices {s t : State} (h : Drawn s t) (hdone : s.startup.phase = .done) :
    t.startup = s.startup ∧ t.devices = s.devices := by
  cases h with
  | resolved _ _ ht =>
    unfold State.resolveAgain at ht
    repeat' split at ht
    all_goals cases ht
    all_goals simp
  | probed h _ => rw [hdone] at h; cases h
  | startedUp h _ => rw [hdone] at h; rcases h with h | h <;> cases h
  | _ => simp

/-- In service and with no access waiting, no consequence touches a FREE or CLEAN buffer. -/
theorem Drawn.sameUnused {s t : State} (h : Drawn s t) (hdone : s.startup.phase = .done) (hw : s.waiting = none) :
    s.SameUnused t := by
  cases h with
  | refused c h => simp [hw] at h
  | completed b h hq => simp [hw] at h
  | resolved _ h ht => simp [hw] at h
  | served h hq => simp [hw] at h
  | flushed h => exact .of_eq (by simp) (by simp)
  | stopped b hs h =>
    have hb : s.buffers[b].state.hasEntry = true := by rw [State.committing_of_engineWaits h]; rfl
    exact .of_but hb (by simp) (s.stopCommit_sameBuffersBut b)
  | started b h =>
    have hb : s.buffers[b].state.hasEntry = true := by rw [State.dirty_of_startable h]; rfl
    exact .of_but hb (by simp) (s.startCommit_sameBuffersBut b)
  | handedOver b h =>
    have hb : s.buffers[b].state.hasEntry = true := by rw [State.dirty_of_startable h]; rfl
    exact .of_but hb (by simp) (s.becomeFailed_sameBuffersBut b)
  | probed h _ => rw [hdone] at h; cases h
  | startedUp h _ => rw [hdone] at h; rcases h with h | h <;> cases h

theorem State.noteShort_devices (s before : State) : (s.noteShort before).devices = s.devices := by
  unfold State.noteShort
  split <;> rfl

theorem State.noteShort_sameUnused (s before : State) : s.SameUnused (s.noteShort before) := by
  unfold State.noteShort
  split <;> exact .of_eq rfl rfl

/-- In service, what a command leaves of the configuration and of the device records stands at the end of its step. -/
theorem State.conclude_sameConfiguration {s : State} (hdone : s.startup.phase = .done) (before : State) :
    s.SameConfiguration (s.conclude before) ∧ (s.conclude before).devices = s.devices := by
  have drawn : s.SameConfiguration s.settle ∧ s.settle.startup = s.startup ∧ s.settle.devices = s.devices :=
    State.settle_induct (P := fun t => s.SameConfiguration t ∧ t.startup = s.startup ∧ t.devices = s.devices)
      (fun u v ⟨hu, hstartup, hdevices⟩ hd => by
        have hdone : u.startup.phase = .done := by rw [hstartup, hdone]
        obtain ⟨hstartup', hdevices'⟩ := hd.sameDevices hdone
        exact ⟨hu.trans (hd.sameConfiguration hdone), hstartup'.trans hstartup, hdevices'.trans hdevices⟩)
      ⟨.refl s, rfl, rfl⟩
  obtain ⟨hconfiguration, -, hdevices⟩ := drawn
  exact ⟨hconfiguration.trans (State.noteShort_sameConfiguration _ before),
    (State.noteShort_devices _ before).trans hdevices⟩

theorem State.conclude_sameUnused {s : State} (hdone : s.startup.phase = .done) (hw : s.waiting = none)
    (before : State) : s.SameUnused (s.conclude before) := by
  have drawn : s.SameUnused s.settle ∧ s.settle.startup = s.startup ∧ s.settle.waiting = none :=
    State.settle_induct (P := fun t => s.SameUnused t ∧ t.startup = s.startup ∧ t.waiting = none)
      (fun u v ⟨hu, hstartup, hwaits⟩ hd => by
        have hdone : u.startup.phase = .done := by rw [hstartup, hdone]
        exact ⟨hu.trans (hd.sameUnused hdone hwaits), (hd.sameDevices hdone).1.trans hstartup,
          (hd.samePortMoreFlags hwaits).waiting hwaits⟩)
      ⟨.of_eq rfl rfl, rfl, hw⟩
  exact drawn.1.trans (State.noteShort_sameUnused _ before)

/-! ### The settings apply -/

theorem State.applyShadow_settings {s : State} {x : Shadow} (hk : x.kind = .settings) :
    s.applyShadow x = s.applySettings x := by
  rw [State.applyShadow, hk]

/-- The state of an accepted settings apply, before its consequences are drawn. -/
def State.withSettings (s : State) (x : Settings) (new : Vector Capacity 4) : State :=
  ((s.installSettings x new).applied .accepted).closeTransaction

@[simp] theorem State.withSettings_frame (s : State) (x : Settings) (new : Vector Capacity 4) :
    (s.withSettings x new).part = s.part ∧ (s.withSettings x new).startup = s.startup ∧
    (s.withSettings x new).settings = x ∧ (s.withSettings x new).regions = s.regions ∧
    (s.withSettings x new).supply.count = s.countAfterApply x.budget ∧
    (s.withSettings x new).management = s.management.closed .accepted s.management.commandStatus ∧
    (s.withSettings x new).port = (s.installSettings x new).port ∧
    (s.withSettings x new).devices = (s.installSettings x new).devices ∧
    (s.withSettings x new).buffers = (s.installSettings x new).buffers ∧
    (s.withSettings x new).recency = (s.installSettings x new).recency := by
  simp [State.withSettings, Management.closed]

theorem exec_settingsApply_of_accepted {s : State} {x : Shadow} {new : Settings} {capacities : Vector Capacity 4}
    (hr : s.resetHeld = false) (h : s.applies x .settings) (hc : s.checkSettings x.bytes = .ok (new, capacities)) :
    exec .settingsApply s = .next ((s.withSettings new capacities).conclude s) := by
  have taken : s.applyShadow x = (s.installSettings new capacities).applied .accepted := by
    rw [State.applyShadow_settings h.2, State.applySettings, hc]
  have row := State.applyRow_of_applies (isKind := fun k => decide (k = .settings)) hr h rfl
  rw [taken] at row
  exact row

/-- An accepted apply puts all settings in force at once (R30, R31, R161). -/
theorem State.withSettings_conclude {s : State} (hdone : s.startup.phase = .done) (new : Settings)
    (capacities : Vector Capacity 4) :
    let t := (s.withSettings new capacities).conclude s
    t.settings = new ∧ t.regions = s.regions ∧
      t.management = s.management.closed .accepted s.management.commandStatus ∧
      (∀ d : Fin 4, t.devices[d] = s.devices[d].withCapacity capacities[d]) ∧
      (s.part ≠ .holdup → t.supply.count = new.budget) ∧
      (s.part = .holdup → t.supply.count ≤ min s.supply.count new.budget) := by
  obtain ⟨hpart, hstartup, hsettings, hregions, hcount, hmanagement, -, hrecords, -⟩ :=
    s.withSettings_frame new capacities
  obtain ⟨hconfiguration, hdevices⟩ :=
    State.conclude_sameConfiguration (s := s.withSettings new capacities) (by rw [hstartup, hdone]) s
  obtain ⟨-, -, -, -, -, hmanaged⟩ := (s.withSettings new capacities).conclude_sameOutside s
  refine ⟨hconfiguration.settings.trans hsettings, hconfiguration.regions.trans hregions, hmanaged.trans hmanagement,
    fun d => ?_, fun hp => ?_, fun hp => ?_⟩
  · rw [hdevices, hrecords]
    exact s.installSettings_devices new capacities d
  · rw [hconfiguration.count_eq (by rwa [hpart]), hcount, State.countAfterApply, if_neg hp]
  · refine hconfiguration.count_le.trans ?_
    rw [hcount, State.countAfterApply, if_pos hp]

/-- With no access waiting, an accepted apply frees the CLEAN buffers that a changed capacity no longer holds, and no
other CLEAN buffer changes (R31). -/
theorem State.withSettings_clean {s : State} (hdone : s.startup.phase = .done) (hw : s.waiting = none)
    (hn : s.recency.Nodup) (new : Settings) (capacities : Vector Capacity 4) {b : Fin 16}
    (hb : s.buffers[b].state = .clean) :
    let t := (s.withSettings new capacities).conclude s
    if s.buffers[b].fill = false ∧ s.buffers[b].tag.any (fun g =>
        decide (s.devices[g.device].capacity ≠ capacities[g.device]) &&
          decide (capacities[g.device].pages ≤ g.page)) = true
    then t.buffers[b] = PageBuffer.freed ∧ b ∉ t.recency
    else t.buffers[b] = s.buffers[b] := by
  obtain ⟨-, hstartup, -, -, -, -, hport, -, hbuffers, hrecency⟩ := s.withSettings_frame new capacities
  have unused := State.conclude_sameUnused (s := s.withSettings new capacities) (by rw [hstartup, hdone])
    ((State.waiting_congr hport).trans (State.installSettings_waiting hw new capacities)) s
  have frees := s.installSettings_onlyFrees new capacities
  have clean := s.installSettings_clean new capacities hb
  rw [← hbuffers] at clean
  dsimp only
  split
  · rename_i hcut
    rw [if_pos hcut] at clean
    refine ⟨(unused.buffers b (by rw [clean]; rfl)).trans clean, ?_⟩
    rw [unused.recency, hrecency]
    rcases frees.buffers b with heq | ⟨-, hgone⟩
    · rw [← heq, ← hbuffers, clean] at hb
      cases hb
    · exact hgone hn
  · rename_i hcut
    rw [if_neg hcut] at clean
    exact (unused.buffers b (by rw [clean, hb]; rfl)).trans clean

/-- Settles O46: the settings are put in force before any consequence is drawn, and no consequence writes them, a device
record or a buffer without an entry. -/
theorem settingsApplyIsWhole : Obligations.SettingsApplyIsWhole := by
  intro x s ⟨hr, hdone⟩ hs h
  refine ⟨fun status hc => ?_, fun new capacities hc => ?_, fun hv => ?_, fun new capacities hv => ?_⟩
  · have refused : s.applyShadow x = s.applied status := by
      rw [State.applyShadow_settings h.2, State.applySettings, hc]
    exact State.applyRow_of_refused (isKind := fun k => decide (k = .settings)) hr hs h rfl refused
  · obtain ⟨hsettings, hregions, hmanagement, hdevices, hcount, hcount'⟩ :=
      State.withSettings_conclude hdone new capacities
    exact ⟨_, exec_settingsApply_of_accepted hr h hc, hsettings, hregions, hmanagement, hdevices, hcount, hcount',
      fun hw hn b hb => State.withSettings_clean hdone hw hn new capacities hb⟩
  · rw [State.checkSettings, (Settings.ofBytes_eq_none_iff _).mpr hv]
  · rw [State.checkSettings_of_value hv]
    simp only [State.capacityCuts_iff, State.changedBusy_iff, State.deviceBusy_iff]

end Sys2Proof.Machine
end

section
/-! PROOFS. The consequences of a step come to an end (log entry 4): a count of what can still be drawn, which every
consequence lowers and which never exceeds the bound of the step. -/
namespace Sys2Proof.Machine

/-! ### The count -/

/-- What can still be drawn on account of a buffer: a DIRTY one can start its commit, which can stop again; one in FILL
can stop. With the budget spent nothing starts. -/
def State.commitsLeft (s : State) (b : Fin 16) : Nat :=
  if s.buffers[b].state = .dirty then (if s.budgetSpent then 0 else 2) else if s.engineWaits b then 1 else 0

/-- What can still be drawn on account of the access: resolved again it may wait for a buffer, and resolved once more it
is held on what it has requested, or answered, having made one buffer DIRTY at most. -/
def State.accessLeft (s : State) : Nat :=
  match s.waiting with
  | none => 0
  | some .handOff => 1
  | some (.entry _) => 1
  | some .streamByte => 1
  | some .buffer => 4
  | some (.crossGeneration _) => 5
  | some (.fetch b) => if s.buffers[b].fill then 1 else 5

/-- A pending flush can complete once. -/
def State.flushesLeft (s : State) : Nat := if Queue.flushPending s.queue then 1 else 0

/-- The turns that start-up can still take. -/
def State.startupLeft (s : State) : Nat :=
  match s.startup.phase with
  | .probe => 2
  | .read => 1
  | .install => 1
  | .done => 0

/-- What can still be drawn while start-up takes no turn. -/
def State.servedLeft (s : State) : Nat := (∑ b : Fin 16, s.commitsLeft b) + s.accessLeft + s.flushesLeft

/-- A bound on the consequences that can still be drawn. -/
def State.consequencesLeft (s : State) : Nat := s.startupLeft * 39 + s.servedLeft

theorem State.commitsLeft_le (s : State) (b : Fin 16) : s.commitsLeft b ≤ 2 := by
  unfold State.commitsLeft
  repeat' split
  all_goals omega

theorem State.accessLeft_le (s : State) : s.accessLeft ≤ 5 := by
  unfold State.accessLeft
  repeat' split
  all_goals omega

theorem State.accessLeft_of_idle {s : State} (h : s.waiting = none) : s.accessLeft = 0 := by
  rw [State.accessLeft, h]

theorem State.accessLeft_pos {s : State} {w : Wait} (h : s.waiting = some w) : 0 < s.accessLeft := by
  rw [State.accessLeft, h]
  cases w with
  | fetch b =>
    dsimp only
    split <;> omega
  | _ => exact Nat.succ_pos _

theorem State.flushesLeft_le (s : State) : s.flushesLeft ≤ 1 := by
  unfold State.flushesLeft
  split <;> omega

theorem State.startupLeft_le (s : State) : s.startupLeft ≤ 2 := by
  unfold State.startupLeft
  split <;> omega

theorem State.servedLeft_le (s : State) : s.servedLeft ≤ 38 := by
  have hc : (∑ b : Fin 16, s.commitsLeft b) ≤ ∑ _b : Fin 16, 2 := Finset.sum_le_sum fun b _ => s.commitsLeft_le b
  have ha := s.accessLeft_le
  have hf := s.flushesLeft_le
  simp only [Finset.sum_const, Finset.card_univ, Fintype.card_fin, smul_eq_mul] at hc
  unfold State.servedLeft
  omega

/-- The count never exceeds the bound on the consequences of one step. -/
theorem State.consequencesLeft_le (s : State) : s.consequencesLeft ≤ Config.settleBound := by
  have hu := s.startupLeft_le
  have hs := s.servedLeft_le
  unfold State.consequencesLeft Config.settleBound
  omega

/-! ### What the count reads -/

theorem State.budgetSpent_congr {s t : State} (hp : t.part = s.part) (hc : t.supply = s.supply) :
    t.budgetSpent = s.budgetSpent := by
  simp only [State.budgetSpent, hp, hc]

theorem State.commitsLeft_congr {s t : State} {b : Fin 16} (hb : t.buffers[b] = s.buffers[b])
    (hs : t.budgetSpent = s.budgetSpent) : t.commitsLeft b = s.commitsLeft b := by
  unfold State.commitsLeft State.engineWaits
  rw [hb, hs]

theorem State.sum_commitsLeft_congr {s t : State} (hb : t.buffers = s.buffers) (hs : t.budgetSpent = s.budgetSpent) :
    (∑ b : Fin 16, t.commitsLeft b) = ∑ b : Fin 16, s.commitsLeft b :=
  Finset.sum_congr rfl fun b _ => State.commitsLeft_congr (by rw [hb]) hs

theorem State.flushesLeft_congr {s t : State} (h : t.queue = s.queue) : t.flushesLeft = s.flushesLeft := by
  simp only [State.flushesLeft, h]

/-- The access waits as before, and the flag of a fetch that it waits on is not cleared. -/
theorem State.accessLeft_le_of_port {s t : State} (hp : t.port = s.port)
    (hf : ∀ b : Fin 16, s.waiting = some (.fetch b) → s.buffers[b].fill = true → t.buffers[b].fill = true) :
    t.accessLeft ≤ s.accessLeft := by
  unfold State.accessLeft
  rw [State.waiting_congr hp]
  cases hw : s.waiting with
  | none => rfl
  | some w =>
    cases w with
    | fetch b =>
      dsimp only
      by_cases hs : s.buffers[b].fill = true
      · rw [if_pos hs, if_pos (hf b hw hs)]
      · rw [if_neg hs]
        split <;> omega
    | _ => rfl

/-! ### Answers -/

@[simp] theorem State.complete_waiting (s : State) (v : Byte) : (s.complete v).waiting = none := by
  unfold State.complete
  cases ha : s.port.access with
  | none => exact State.waiting_of_noAccess ha
  | some a =>
    dsimp only
    cases hst : a.status with
    | done o => exact State.waiting_of_done ha hst
    | pending w => rfl

@[simp] theorem State.refuse_waiting (s : State) (c : Cause) : (s.refuse c).waiting = none := by
  unfold State.refuse
  cases ha : s.port.access with
  | none => exact State.waiting_of_noAccess ha
  | some a =>
    dsimp only
    cases hst : a.status with
    | done o => exact State.waiting_of_done ha hst
    | pending w => rfl

/-- With an access in progress the Port comes to wait on what it is put to. -/
theorem State.waitOn_waiting (s : State) (w : Wait) : (s.waitOn w).waiting = none ∨ (s.waitOn w).waiting = some w := by
  unfold State.waitOn
  split
  · rename_i ha
    exact .inl (State.waiting_of_noAccess ha)
  · exact .inr rfl

theorem State.waitOn_buffers (s : State) (w : Wait) : (s.waitOn w).buffers = s.buffers := by simp

theorem State.serveStream_port {s : State} {c : StreamContext} {v : Byte} {rest : List Byte}
    (hc : s.stream.context = some c) (hq : s.stream.queue = v :: rest) : s.serveStream.port = (s.complete v).port := by
  unfold State.serveStream
  rw [hc, hq]
  dsimp only
  split <;> simp

/-- An answer to the access, with all else that the count reads unchanged, lowers it. -/
theorem State.servedLeft_lt_of_answered {s t : State} {w : Wait} (hw : s.waiting = some w) (ht : t.waiting = none)
    (h : t.buffers = s.buffers ∧ t.queue = s.queue ∧ t.part = s.part ∧ t.supply = s.supply) :
    t.servedLeft < s.servedLeft := by
  obtain ⟨hb, hq, hp, hc⟩ := h
  have ha := State.accessLeft_pos hw
  unfold State.servedLeft
  rw [State.accessLeft_of_idle ht, State.sum_commitsLeft_congr hb (State.budgetSpent_congr hp hc),
    State.flushesLeft_congr hq]
  omega

theorem State.servedLeft_refuse {s : State} {w : Wait} (hw : s.waiting = some w) (c : Cause) :
    (s.refuse c).servedLeft < s.servedLeft :=
  State.servedLeft_lt_of_answered hw (s.refuse_waiting c) (by simp)

theorem State.servedLeft_complete {s : State} {w : Wait} (hw : s.waiting = some w) (v : Byte) :
    (s.complete v).servedLeft < s.servedLeft :=
  State.servedLeft_lt_of_answered hw (s.complete_waiting v) (by simp)

/-! ### No consequence makes a flush pending -/

namespace Queue

theorem flushPending_consMerged (e : QueueEntry) (q : List QueueEntry) :
    flushPending (consMerged e q) = (e.isMarked || flushPending q) := by
  unfold consMerged flushPending
  split
  · simp [QueueEntry.isMarked, Bool.or_assoc]
  · simp

theorem flushPending_mergeMarkers (q : List QueueEntry) : flushPending (mergeMarkers q) = flushPending q := by
  induction q with
  | nil => rfl
  | cons e q ih =>
    rw [mergeMarkers, List.foldr_cons, ← mergeMarkers, flushPending_consMerged, ih]
    rfl

theorem flushPending_of_dropHeadMarker {q : List QueueEntry} (h : flushPending (dropHeadMarker q) = true) :
    flushPending q = true := by
  unfold dropHeadMarker at h
  split at h
  · simp only [flushPending, List.any_cons, Bool.or_eq_true] at h ⊢
    exact .inr h
  · exact h

theorem flushPending_of_normalise {q : List QueueEntry} (h : flushPending (normalise q) = true) :
    flushPending q = true := by
  rw [← flushPending_mergeMarkers]
  exact flushPending_of_dropHeadMarker h

theorem flushPending_of_without {q : List QueueEntry} {b : Fin 16} (h : flushPending (without q b) = true) :
    flushPending q = true := by
  simp only [flushPending, without, List.any_eq_true] at h ⊢
  obtain ⟨e, he, hm⟩ := h
  exact ⟨e, List.mem_of_mem_filter he, hm⟩

@[simp] theorem flushPending_append (q : List QueueEntry) (b : Fin 16) :
    flushPending (append q b) = flushPending q := by
  simp [flushPending, append, QueueEntry.isMarked]

@[simp] theorem flushPending_barrier (q : List QueueEntry) : flushPending (barrier q) = flushPending q := by
  unfold barrier
  split
  · simp [flushPending, QueueEntry.isMarked]
  · rfl

@[simp] theorem isMarked_pushFor (b : Fin 16) (e : QueueEntry) :
    (e.pushFor b).isMarked = e.isMarked := by
  cases e <;> rfl

@[simp] theorem flushPending_givePush (q : List QueueEntry) (b : Fin 16) :
    flushPending (givePush q b) = flushPending q := by
  simp [flushPending, givePush, List.any_map, Function.comp_def]

@[simp] theorem flushPending_unmark (q : List QueueEntry) : flushPending (unmark q) = false := by
  simp only [flushPending, unmark, List.any_map, List.any_eq_false, Function.comp_def, Bool.not_eq_true]
  intro e _
  cases e <;> rfl

end Queue

/-! ### What resolving the access again can do -/

/-- The buffer found for a page stands for it. -/
theorem State.findBuffer_eq_some {s : State} {d : Fin 4} {page : Nat} {b : Fin 16} (h : s.findBuffer d page = some b) :
    s.buffers[b].state ≠ .free ∧ s.buffers[b].tag = some ⟨d, page⟩ := by
  have hb := List.find?_some h
  simpa using hb

theorem State.freeBuffer_sameBuffersBut (s : State) (b : Fin 16) : s.SameBuffersBut b (s.freeBuffer b) :=
  fun b' hb => by rw [State.freeBuffer_buffers, if_neg hb]

theorem State.allocate_buffers (s : State) (b b' : Fin 16) (g : Tag) : (s.allocate b g).buffers[b'] =
    if b' = b then { PageBuffer.freed with state := .clean, tag := some g } else s.buffers[b'] := by
  have freed : s.SameBuffersBut b (if s.buffers[b].state = .free then s else s.freeBuffer b) := by
    split
    · exact .of_eq rfl
    · exact s.freeBuffer_sameBuffersBut b
  rw [State.allocate, State.touch_buffers, State.buffers_setBuffer]
  by_cases hb : b' = b
  · rw [if_pos hb, if_pos hb]
  · rw [if_neg hb, if_neg hb, freed b' hb]

theorem State.requestFetch_buffers (s : State) (b b' : Fin 16) : (s.requestFetch b).buffers[b'] =
    if b' = b ∧ s.buffers[b].tag ≠ none then { s.buffers[b] with fill := true } else s.buffers[b'] := by
  unfold State.requestFetch
  split
  · rename_i hg
    rw [if_neg fun h => h.2 hg]
  · rename_i g hg
    rw [State.request_buffers, State.buffers_setBuffer]
    exact if_congr (by rw [hg]; exact (and_iff_left (Option.some_ne_none g)).symm) rfl rfl

/-- A requested fetch pins its buffer (R40). -/
theorem State.requestFetch_fill {s : State} {b : Fin 16} (h : s.buffers[b].tag ≠ none) :
    (s.requestFetch b).buffers[b].fill = true := by
  rw [State.requestFetch_buffers, if_pos ⟨rfl, h⟩]

theorem State.placeByte_sameBuffersBut (s : State) (b : Fin 16) (d : Decode) (v : Byte) :
    s.SameBuffersBut b (s.placeByte b d v) := by
  unfold State.placeByte
  dsimp only
  split <;> exact s.setBuffer_sameBuffersBut b _

theorem State.completeWatches_port (s : State) (a : HostAddress) (v : Byte) (b : Fin 16) :
    (s.completeWatches a v b).port = s.port := by simp

theorem State.allocate_sameBuffersBut (s : State) (b : Fin 16) (g : Tag) : s.SameBuffersBut b (s.allocate b g) :=
  fun b' hb => by rw [State.allocate_buffers, if_neg hb]

theorem State.flushPending_removeEntry {s : State} {b : Fin 16} (h : Queue.flushPending (s.removeEntry b).queue = true) :
    Queue.flushPending s.queue = true := by
  have hq : (s.removeEntry b).queue = Queue.normalise (Queue.without s.queue b) := by
    unfold State.removeEntry
    dsimp only
    split <;> rfl
  rw [hq] at h
  exact Queue.flushPending_of_without (Queue.flushPending_of_normalise h)

theorem State.flushPending_freeBuffer {s : State} {b : Fin 16} (h : Queue.flushPending (s.freeBuffer b).queue = true) :
    Queue.flushPending s.queue = true := by
  unfold State.freeBuffer at h
  dsimp only at h
  split at h
  · exact State.flushPending_removeEntry (b := b) (by simpa using h)
  · simpa using h

theorem State.flushPending_allocate {s : State} {b : Fin 16} {g : Tag}
    (h : Queue.flushPending (s.allocate b g).queue = true) : Queue.flushPending s.queue = true := by
  unfold State.allocate at h
  dsimp only at h
  split at h
  · exact h
  · exact State.flushPending_freeBuffer h

theorem State.flushPending_placeByte (s : State) (b : Fin 16) (d : Decode) (v : Byte) :
    Queue.flushPending (s.placeByte b d v).queue = Queue.flushPending s.queue := by
  unfold State.placeByte
  dsimp only
  split
  · exact Queue.flushPending_append _ _
  · rfl

theorem State.flushPending_completeWatches (s : State) (a : HostAddress) (v : Byte) (b : Fin 16) :
    Queue.flushPending (s.completeWatches a v b).queue = Queue.flushPending s.queue := by
  unfold State.completeWatches
  refine foldl_invariant (P := fun t : State => Queue.flushPending t.queue = Queue.flushPending s.queue) rfl
    fun t n ht => ?_
  unfold State.completeWatch
  dsimp only
  repeat' split
  all_goals simpa using ht

theorem State.flushPending_finishWrite (s : State) (b : Fin 16) (a : HostAddress) (d : Decode) (v : Byte) :
    Queue.flushPending (s.finishWrite b a d v).queue = Queue.flushPending s.queue := by
  rw [← s.flushPending_completeWatches a v b]
  unfold State.finishWrite
  dsimp only
  split <;> simp

/-- After an applied write the access is answered, or waits for its entry. -/
theorem State.accessLeft_finishWrite (s : State) (b : Fin 16) (a : HostAddress) (d : Decode) (v : Byte) :
    (s.finishWrite b a d v).accessLeft ≤ 1 := by
  unfold State.finishWrite
  dsimp only
  split
  · rcases State.waitOn_waiting (((s.completeWatches a v b).streamWritten d.device d.address).givePush b) (.entry b)
      with hw | hw
    · exact (State.accessLeft_of_idle hw).trans_le (Nat.zero_le 1)
    · simp only [State.accessLeft, hw, le_refl]
  · rw [State.accessLeft_of_idle (State.complete_waiting _ _)]
    omega

/-- Put to wait for a buffer, or refused (R52). -/
theorem State.accessLeft_waitForBuffer (s : State) : s.waitForBuffer.accessLeft ≤ 4 := by
  unfold State.waitForBuffer
  dsimp only
  split
  · rw [State.accessLeft_of_idle (State.refuse_waiting _ _)]
    omega
  · rcases State.waitOn_waiting (s.raise .pressure) .buffer with hw | hw
    · exact (State.accessLeft_of_idle hw).trans_le (Nat.zero_le 4)
    · simp only [State.accessLeft, hw, le_refl]

/-- A read held on a fetch that is pending. -/
theorem State.accessLeft_waitOn_fetch {s : State} {b : Fin 16} (h : s.buffers[b].fill = true) :
    (s.waitOn (.fetch b)).accessLeft ≤ 1 := by
  rcases s.waitOn_waiting (.fetch b) with hw | hw
  · exact (State.accessLeft_of_idle hw).trans_le (Nat.zero_le 1)
  · simp only [State.accessLeft, hw, State.waitOn_buffers, h, if_true, le_refl]

/-- What resolving an access can come to: it changes one buffer at most and is answered or held on what it has requested,
or it changes none and waits for a buffer, there being no victim. -/
def State.Resolves (s t : State) : Prop :=
  (Queue.flushPending t.queue = true → Queue.flushPending s.queue = true) ∧ t.part = s.part ∧ t.supply = s.supply ∧
  ((t.accessLeft ≤ 1 ∧ ∃ b, s.SameBuffersBut b t) ∨ (s.victim = none ∧ t.accessLeft ≤ 4 ∧ t.buffers = s.buffers))

theorem State.waitForBuffer_resolves {s : State} (h : s.victim = none) : s.Resolves s.waitForBuffer :=
  ⟨by simp, by simp, by simp, .inr ⟨h, s.accessLeft_waitForBuffer, by simp⟩⟩

theorem State.refuse_resolves (s : State) (c : Cause) : s.Resolves (s.refuse c) :=
  ⟨by simp, by simp, by simp, .inl ⟨by rw [State.accessLeft_of_idle (s.refuse_waiting c)]; omega, 0, .of_eq (by simp)⟩⟩

theorem State.readResident_resolves {s : State} {b : Fin 16} (hb : s.buffers[b].tag ≠ none) (d : Decode) :
    s.Resolves (s.readResident b d) := by
  unfold State.readResident
  split
  · refine ⟨by simp, by simp, by simp, .inl ⟨?_, b, .of_eq (by simp)⟩⟩
    rw [State.accessLeft_of_idle (State.complete_waiting _ _)]
    omega
  · split
    · exact s.refuse_resolves _
    · refine ⟨?_, ?_, ?_, .inl ⟨State.accessLeft_waitOn_fetch ?_, b, ?_⟩⟩
      · split <;> simp
      · split <;> simp
      · split <;> simp
      · split
        · assumption
        · exact State.requestFetch_fill hb
      · refine .trans ?_ (.of_eq (State.waitOn_buffers _ _))
        split
        · exact .of_eq rfl
        · exact s.requestFetch_sameBuffersBut b

theorem State.readAbsent_resolves (s : State) (d : Decode) : s.Resolves (s.readAbsent d) := by
  unfold State.readAbsent
  split
  · exact s.refuse_resolves _
  · split
    · exact State.waitForBuffer_resolves ‹_›
    · rename_i b _
      refine ⟨?_, by simp, by simp, .inl ⟨State.accessLeft_waitOn_fetch (State.requestFetch_fill ?_), b, ?_⟩⟩
      · intro h
        refine State.flushPending_allocate (b := b) (g := ⟨d.device, d.address / 64⟩) ?_
        simpa using h
      · rw [State.allocate_buffers, if_pos rfl]
        exact Option.some_ne_none _
      · exact .trans ((s.allocate_sameBuffersBut b _).trans (State.requestFetch_sameBuffersBut _ b))
          (.of_eq (State.waitOn_buffers _ _))

theorem State.resolveRead_resolves (s : State) (d : Decode) : s.Resolves (s.resolveRead d) := by
  unfold State.resolveRead
  split
  · rename_i b hb
    exact State.readResident_resolves (by rw [(State.findBuffer_eq_some hb).2]; exact Option.some_ne_none _) d
  · exact s.readAbsent_resolves d

/-- A write applied to a buffer of a state that a victim's allocation may have left. -/
theorem State.appliedWrite_resolves {s u : State} {b : Fin 16} (hu : s.SameBuffersBut b u)
    (hf : Queue.flushPending u.queue = true → Queue.flushPending s.queue = true) (hp : u.part = s.part)
    (hc : u.supply = s.supply) (a : HostAddress) (d : Decode) (v : Byte) :
    s.Resolves ((u.placeByte b d v).finishWrite b a d v) := by
  refine ⟨?_, by simpa using hp, by simpa using hc, .inl ⟨State.accessLeft_finishWrite _ _ _ _ _, b, ?_⟩⟩
  · rw [State.flushPending_finishWrite, State.flushPending_placeByte]
    exact hf
  · exact (hu.trans (u.placeByte_sameBuffersBut b d v)).trans (.of_eq (by simp))

theorem State.resolveWrite_resolves (s : State) (a : HostAddress) (d : Decode) (v : Byte) :
    s.Resolves (s.resolveWrite a d v) := by
  unfold State.resolveWrite
  split
  · exact State.appliedWrite_resolves (.of_eq rfl) id rfl rfl a d v
  · split
    · exact State.waitForBuffer_resolves ‹_›
    · exact State.appliedWrite_resolves (s.allocate_sameBuffersBut _ _) State.flushPending_allocate (by simp) (by simp)
        a d v

theorem State.resolveAgain_resolves {s t : State} (h : s.resolveAgain = some t) : s.Resolves t := by
  unfold State.resolveAgain at h
  split at h
  · cases h
  · split at h
    · cases h
      exact s.resolveRead_resolves _
    · cases h
      exact s.resolveWrite_resolves _ _ _
    · cases h

/-- With the budget spent, less is left. -/
theorem State.commitsLeft_le_of_buffer {s t : State} {b : Fin 16} (hb : t.buffers[b] = s.buffers[b])
    (hs : s.budgetSpent = true → t.budgetSpent = true) : t.commitsLeft b ≤ s.commitsLeft b := by
  unfold State.commitsLeft State.engineWaits
  rw [hb]
  split
  · by_cases h : s.budgetSpent = true
    · rw [if_pos (hs h)]
      exact Nat.zero_le _
    · rw [if_neg h]
      split <;> omega
  · rfl

/-- The sum over the buffers grows by what one buffer can have, where no other changes. -/
theorem State.sum_commitsLeft_le {s t : State} {b : Fin 16} (h : s.SameBuffersBut b t)
    (hs : s.budgetSpent = true → t.budgetSpent = true) :
    (∑ b' : Fin 16, t.commitsLeft b') + s.commitsLeft b ≤ (∑ b' : Fin 16, s.commitsLeft b') + t.commitsLeft b := by
  have others : ∑ b' ∈ Finset.univ.erase b, t.commitsLeft b' ≤ ∑ b' ∈ Finset.univ.erase b, s.commitsLeft b' :=
    Finset.sum_le_sum fun b' hb' => State.commitsLeft_le_of_buffer (h b' (Finset.ne_of_mem_erase hb')) hs
  rw [← Finset.add_sum_erase _ _ (Finset.mem_univ b), ← Finset.add_sum_erase _ _ (Finset.mem_univ b)]
  omega

/-- Resolving an access lowers the count where the access had come to wait on nothing that is pending. -/
theorem State.Resolves.servedLeft_lt {s t : State} (h : s.Resolves t)
    (hw : 5 ≤ s.accessLeft ∨ (4 ≤ s.accessLeft ∧ s.victim ≠ none)) : t.servedLeft < s.servedLeft := by
  obtain ⟨hf, hp, hc, hcases⟩ := h
  have hspent := State.budgetSpent_congr hp hc
  have hflush : t.flushesLeft ≤ s.flushesLeft := by
    unfold State.flushesLeft
    split
    · rw [if_pos (hf ‹_›)]
    · omega
  unfold State.servedLeft
  rcases hcases with ⟨ha, b, hb⟩ | ⟨hv, ha, hb⟩
  · have hsum := State.sum_commitsLeft_le hb hspent.trans
    have hle := t.commitsLeft_le b
    omega
  · rw [State.sum_commitsLeft_congr hb hspent]
    have hne : 5 ≤ s.accessLeft := hw.resolve_right fun h => h.2 hv
    omega

/-! ### Every consequence lowers the count -/

/-- The unit whose consequence is drawn. -/
theorem State.consequence_cases {s t : State} (h : s.consequence = some t) :
    s.settleAccess = some t ∨ s.settleFlush = some t ∨ s.settleFill = some t ∨ s.settleQueue = some t ∨
      s.settleBufferWait = some t ∨ s.settleStartup = some t := by
  unfold State.consequence at h
  simp only [Option.orElse_eq_orElse, Option.orElse_eq_or, Option.or_eq_some_iff] at h
  rcases h with h | ⟨-, h | ⟨-, h | ⟨-, h | ⟨-, h | ⟨-, h⟩⟩⟩⟩⟩ <;> simp only [h, true_or, or_true]

theorem State.settleAccess_lowers {s t : State} (h : s.settleAccess = some t) : t.servedLeft < s.servedLeft := by
  unfold State.settleAccess at h
  split at h <;> rename_i hw
  · have left : s.accessLeft = 5 := by rw [State.accessLeft, hw]
    unfold State.settleHeldWrite at h
    split at h
    · split at h
      · cases h
        exact State.servedLeft_refuse hw _
      · cases h
    · exact (State.resolveAgain_resolves h).servedLeft_lt (.inl left.ge)
  · unfold State.settleWriteThrough at h
    split at h
    · split at h
      · cases h
        exact State.servedLeft_refuse hw _
      · cases h
    · cases h
      exact State.servedLeft_complete hw _
  · unfold State.settleFetchRead at h
    split at h
    · cases h
    · rename_i b hf
      have left : s.accessLeft = 5 := by
        rw [State.accessLeft, hw]
        exact if_neg hf
      exact (State.resolveAgain_resolves h).servedLeft_lt (.inl left.ge)
  · unfold State.settleDemandRead at h
    split at h
    · cases h
    · cases h
      exact State.servedLeft_refuse hw _
    · cases h
    · rename_i hc hq
      cases h
      refine State.servedLeft_lt_of_answered hw ?_ (by simp)
      exact (State.waiting_congr (State.serveStream_port hc hq)).trans (s.complete_waiting _)
  all_goals cases h

theorem State.settleFlush_lowers {s t : State} (h : s.settleFlush = some t) : t.servedLeft < s.servedLeft := by
  unfold State.settleFlush at h
  split at h
  · rename_i hcomplete
    cases h
    have hpending : Queue.flushPending s.queue = true := by
      unfold State.flushComplete at hcomplete
      exact (Bool.and_eq_true_iff.mp hcomplete).1
    have before : s.flushesLeft = 1 := if_pos hpending
    have after : s.completeFlush.flushesLeft = 0 := if_neg (by simp [State.completeFlush])
    have buffers : s.completeFlush.buffers = s.buffers := by simp
    have access : s.completeFlush.accessLeft = s.accessLeft := rfl
    unfold State.servedLeft
    rw [State.sum_commitsLeft_congr buffers rfl, before, after, access]
    omega
  · cases h

/-- Where one buffer changes and what is left for it falls, and the Port and the queue stay. -/
theorem State.servedLeft_lt_of_commit {s t : State} {b : Fin 16} (hb : s.SameBuffersBut b t)
    (hs : s.budgetSpent = true → t.budgetSpent = true) (hp : t.port = s.port) (hq : t.queue = s.queue)
    (hf : s.waiting = some (.fetch b) → s.buffers[b].fill = true → t.buffers[b].fill = true)
    (hlt : t.commitsLeft b < s.commitsLeft b) : t.servedLeft < s.servedLeft := by
  have hsum := State.sum_commitsLeft_le hb hs
  have access : t.accessLeft ≤ s.accessLeft := State.accessLeft_le_of_port hp fun b' hw hfill => by
    by_cases hne : b' = b
    · subst hne
      exact hf hw hfill
    · rw [hb b' hne]
      exact hfill
  unfold State.servedLeft
  rw [State.flushesLeft_congr hq]
  omega

/-- A commit that stops leaves the buffer DIRTY, and pinned where the access waits on its fetch (R104). -/
theorem State.stopCommit_buffer (s : State) (b : Fin 16) : (s.stopCommit b).buffers[b].state = .dirty ∧
    (s.waiting = some (.fetch b) → (s.stopCommit b).buffers[b].fill = s.buffers[b].fill) := by
  unfold State.stopCommit State.endDirty
  dsimp only
  rw [State.buffers_setBuffer, if_pos rfl]
  refine ⟨rfl, fun hw => ?_⟩
  rw [if_neg (by simp [hw])]
  simp [PageBuffer.returnInFlight]

theorem State.becomeFailed_buffer (s : State) (b : Fin 16) : (s.becomeFailed b).buffers[b] =
    { s.buffers[b].returnInFlight with state := .failed, stage := none, sent := none } := by
  unfold State.becomeFailed
  dsimp only
  rw [State.raise_buffers, State.buffers_setBuffer, if_pos rfl]
  simp

theorem State.settleFill_lowers {s t : State} (h : s.settleFill = some t) : t.servedLeft < s.servedLeft := by
  unfold State.settleFill at h
  split at h
  · rename_i hspent
    obtain ⟨b, hb, rfl⟩ := Option.map_eq_some_iff.mp h
    have hwaits : s.engineWaits b = true := List.find?_some hb
    obtain ⟨hdirty, hfill⟩ := s.stopCommit_buffer b
    have hsame : (s.stopCommit b).budgetSpent = s.budgetSpent := State.budgetSpent_congr (by simp) (by simp)
    refine State.servedLeft_lt_of_commit (s.stopCommit_sameBuffersBut b) hsame.trans (by simp) (by simp)
      (fun hw hf => (hfill hw).trans hf) ?_
    have before : s.commitsLeft b = 1 := by
      rw [State.commitsLeft, State.committing_of_engineWaits hwaits, if_neg (by decide), if_pos hwaits]
    have after : (s.stopCommit b).commitsLeft b = 0 := by
      rw [State.commitsLeft, if_pos hdirty, if_pos (hsame.trans hspent)]
    omega
  · cases h

/-- A record whose dirty map goes out (R91). -/
def PageBuffer.sending (x : PageBuffer) (verify : Bool) : PageBuffer :=
  { x with
    inFlight := x.inFlight ||| x.dirty, dirty := 0, stage := some .send
    sent := some { first := lowest x.dirty, length := spanLength x.dirty, verify := verify } }

theorem State.startSend_buffer {s : State} {b : Fin 16} (h : s.buffers[b].tag ≠ none) :
    (s.startSend b).buffers[b] = s.buffers[b].sending (s.verifyOf b) := by
  unfold State.startSend
  split
  · exact absurd ‹_› h
  · exact (State.buffers_setBuffer s b b _).trans (if_pos rfl)

theorem State.startSend_of_untagged {s : State} {b : Fin 16} (h : s.buffers[b].tag = none) : s.startSend b = s := by
  rw [State.startSend, h]

/-- In FILL a tagged record is pinned (R88). -/
theorem State.enterFill_buffer (s : State) (b : Fin 16) : (s.enterFill b).buffers[b] =
    { s.buffers[b] with stage := some .fill, fill := s.buffers[b].fill || s.buffers[b].tag.isSome } := by
  unfold State.enterFill
  dsimp only
  rw [State.buffers_setBuffer, if_pos rfl]
  split
  · rename_i hf
    rw [State.buffers_setBuffer, if_pos rfl]
    simp only at hf
    simp only [hf, Bool.true_or]
  · rename_i hf
    simp only [Bool.not_eq_true] at hf
    rw [State.requestFetch_buffers, State.buffers_setBuffer, if_pos rfl]
    cases s.buffers[b].tag with
    | none => simp
    | some g => simp

/-- `t` comes from `s` by what the start of `b`'s commit does: it is COMMITTING, or the budget is spent and it stopped; an
access that waits on its fetch finds it pinned still. -/
theorem State.startSend_started {s : State} {b : Fin 16} (h : s.buffers[b].state = .committing) :
    (s.startSend b).buffers[b].state = .committing ∧ (s.startSend b).buffers[b].fill = s.buffers[b].fill := by
  by_cases hg : s.buffers[b].tag = none
  · rw [State.startSend_of_untagged hg]
    exact ⟨h, rfl⟩
  · rw [State.startSend_buffer hg]
    exact ⟨h, rfl⟩

/-- A commit that enters SEND goes on, or the budget is spent and it stops (R104). -/
theorem State.enterSend_started {s : State} {b : Fin 16} (h : s.buffers[b].state = .committing) :
    ((s.enterSend b).buffers[b].state = .committing ∨
      ((s.enterSend b).buffers[b].state = .dirty ∧ (s.enterSend b).budgetSpent = true)) ∧
    (s.waiting = some (.fetch b) → (s.enterSend b).buffers[b].fill = s.buffers[b].fill) := by
  unfold State.enterSend
  split
  · rename_i hp
    split
    · rename_i hc
      obtain ⟨hdirty, hfill⟩ := s.stopCommit_buffer b
      refine ⟨.inr ⟨hdirty, ?_⟩, hfill⟩
      simp [State.budgetSpent, hp, hc]
    · obtain ⟨hstate, hfill⟩ := State.startSend_started
        (s := { s with supply := { s.supply with count := s.supply.count - 1 } }) (b := b) h
      exact ⟨.inl hstate, fun _ => hfill⟩
  · obtain ⟨hstate, hfill⟩ := State.startSend_started h
    exact ⟨.inl hstate, fun _ => hfill⟩

theorem State.startChoice_started {s : State} {b : Fin 16} (h : s.buffers[b].state = .committing) :
    ((s.startChoice b).buffers[b].state = .committing ∨
      ((s.startChoice b).buffers[b].state = .dirty ∧ (s.startChoice b).budgetSpent = true)) ∧
    (s.waiting = some (.fetch b) → s.buffers[b].fill = true → (s.startChoice b).buffers[b].fill = true) := by
  unfold State.startChoice
  split
  · obtain ⟨hstate, hfill⟩ := State.enterSend_started h
    exact ⟨hstate, fun hw hf => (hfill hw).trans hf⟩
  · rw [State.enterFill_buffer]
    exact ⟨.inl h, fun _ hf => by simp only [hf, Bool.true_or]⟩

/-- The conditions under which an entry is taken (R71, R72). -/
theorem State.startable_iff {s : State} {x : DeviceState} {b : Fin 16} : s.startable x b = true ↔
    ∃ d, s.deviceOfBuffer b = some d ∧ s.wanted b = true ∧ s.buffers[b].state = .dirty ∧
      Queue.markerBefore s.queue b = false ∧ s.devices[d].state = x ∧ s.deviceCommitting d = false ∧
      s.budgetSpent = false := by
  unfold State.startable
  cases s.deviceOfBuffer b with
  | none => simp
  | some d => simp [and_assoc]

theorem State.startCommit_lowers {s : State} {b : Fin 16} (h : s.eligible b = true) :
    (s.startCommit b).servedLeft < s.servedLeft := by
  obtain ⟨d, -, -, hdirty, -, -, -, hspent⟩ := State.startable_iff.mp h
  have committing : (s.setBuffer b { s.buffers[b] with state := .committing }).buffers[b].state = .committing := by
    rw [State.buffers_setBuffer, if_pos rfl]
  obtain ⟨hstate, hfill⟩ := State.startChoice_started committing
  refine State.servedLeft_lt_of_commit (s.startCommit_sameBuffersBut b) (fun hs => ?_) (by simp) (by simp)
    (fun hw hf => hfill hw ?_) ?_
  · rw [hspent] at hs
    cases hs
  · rw [State.buffers_setBuffer, if_pos rfl]
    exact hf
  · have before : s.commitsLeft b = 2 := by rw [State.commitsLeft, if_pos hdirty, hspent, if_neg Bool.false_ne_true]
    have after : (s.startCommit b).commitsLeft b ≤ 1 := by
      unfold State.commitsLeft State.startCommit
      rcases hstate with hc | ⟨hd, hs⟩
      · rw [hc, if_neg (by decide)]
        split <;> omega
      · rw [if_pos hd, if_pos hs]
        exact Nat.zero_le 1
    omega

theorem State.handOver_lowers {s : State} {b : Fin 16} (h : s.meetsButForDevice b = true) :
    (s.handOver b).servedLeft < s.servedLeft := by
  obtain ⟨d, -, -, hdirty, -, -, -, hspent⟩ := State.startable_iff.mp h
  have record := s.becomeFailed_buffer b
  unfold State.handOver
  refine State.servedLeft_lt_of_commit (s.becomeFailed_sameBuffersBut b)
    ((State.budgetSpent_congr (by simp) (by simp)).trans) (by simp) (by simp) (fun _ hf => ?_) ?_
  · rw [record]
    exact hf
  · have before : s.commitsLeft b = 2 := by rw [State.commitsLeft, if_pos hdirty, hspent, if_neg Bool.false_ne_true]
    have after : (s.becomeFailed b).commitsLeft b = 0 := by
      simp only [State.commitsLeft, State.engineWaits, record]
      rfl
    omega

theorem State.settleQueue_lowers {s t : State} (h : s.settleQueue = some t) : t.servedLeft < s.servedLeft := by
  unfold State.settleQueue at h
  obtain ⟨b, hb, rfl⟩ := Option.map_eq_some_iff.mp h
  have taken := List.find?_some hb
  unfold State.takeEntry
  split
  · exact State.startCommit_lowers ‹_›
  · rename_i he
    refine State.handOver_lowers ?_
    simpa [he] using taken

theorem State.settleBufferWait_lowers {s t : State} (h : s.settleBufferWait = some t) : t.servedLeft < s.servedLeft := by
  unfold State.settleBufferWait at h
  split at h
  · rename_i hw
    split at h
    · rename_i hv
      refine (State.resolveAgain_resolves h).servedLeft_lt (.inr ⟨?_, Option.isSome_iff_ne_none.mp hv⟩)
      rw [State.accessLeft, hw]
    · split at h
      · cases h
        exact State.servedLeft_refuse hw _
      · cases h
  · cases h

theorem State.enterHoldup_startup (s : State) : s.enterHoldup.startup = s.startup := by
  unfold State.enterHoldup
  dsimp only
  exact foldl_invariant (P := fun t : State => t.startup = s.startup) (by simp) fun t b ht => by simpa using ht

/-- What the installation brings about, and the end of start-up keeps, holds at its end (R188, R189). -/
theorem State.endStartup_induct {P : State → Prop} {s : State} (install : ∀ o c, P (s.installConfiguration o c))
    (raise : ∀ u, P u → P (u.raise .descriptor)) (holdup : ∀ u, P u → P u.enterHoldup)
    (run : ∀ u : State, P u → P { u with part := .running }) (handOff : ∀ u, P u → P u.handOff) : P s.endStartup := by
  unfold State.endStartup
  generalize startupDecision s.startup.store = p
  obtain ⟨o, c⟩ := p
  dsimp only
  have installed : P (if o = .defaultsFlagged then (s.installConfiguration o c).raise .descriptor
      else s.installConfiguration o c) := by
    split
    · exact raise _ (install o c)
    · exact install o c
  generalize (if o = .defaultsFlagged then (s.installConfiguration o c).raise .descriptor
    else s.installConfiguration o c) = u at installed
  split
  · exact holdup u installed
  · split
    · exact handOff _ (run u installed)
    · exact run u installed

/-- The end of start-up is the end of its phases (R189). -/
theorem State.endStartup_phase (s : State) : s.endStartup.startup.phase = .done := by
  refine State.endStartup_induct (P := fun t => t.startup.phase = .done) (fun _ _ => rfl) (fun _ h => h)
    (fun u h => ?_) (fun _ h => h) (fun u h => ?_)
  · rw [u.enterHoldup_startup, h]
  · simpa using h

theorem State.startupLeft_endStartup (s : State) : s.endStartup.startupLeft = 0 := by
  rw [State.startupLeft, s.endStartup_phase]

theorem State.settleStartup_lowers {s t : State} (h : s.settleStartup = some t) : t.startupLeft < s.startupLeft := by
  have ends (hpos : 0 < s.startupLeft) : s.endStartup.startupLeft < s.startupLeft := by
    rwa [s.startupLeft_endStartup]
  unfold State.settleStartup at h
  split at h
  · cases h
  · split at h <;> rename_i hp
    · split at h
      · cases h
      · cases h
        have left : s.startupLeft = 2 := by rw [State.startupLeft, hp]
        unfold State.endProbePhase
        split
        · rw [left]
          exact Nat.one_lt_two
        · exact ends (by omega)
    · split at h
      · cases h
      · cases h
        exact ends (by rw [State.startupLeft, hp]; exact Nat.one_pos)
    · cases h
      exact ends (by rw [State.startupLeft, hp]; exact Nat.one_pos)
    · cases h

/-- A consequence leaves start-up alone, or start-up has taken one of its turns. -/
theorem Drawn.startup_eq_or_lowers {s t : State} (h : Drawn s t) :
    t.startup = s.startup ∨ t.startupLeft < s.startupLeft := by
  cases h with
  | resolved _ _ ht =>
    unfold State.resolveAgain at ht
    repeat' split at ht
    all_goals cases ht
    all_goals exact .inl (by simp)
  | probed hp _ =>
    have left : s.startupLeft = 2 := by rw [State.startupLeft, hp]
    right
    unfold State.endProbePhase
    split
    · rw [left]
      exact Nat.one_lt_two
    · rw [s.startupLeft_endStartup, left]
      exact Nat.two_pos
  | startedUp hp _ =>
    right
    rw [s.startupLeft_endStartup, State.startupLeft]
    rcases hp with hp | hp <;> rw [hp] <;> exact Nat.one_pos
  | _ => exact .inl (by simp)

/-- A turn of start-up outweighs whatever it makes possible for the other units. -/
theorem State.consequence_lowers {s t : State} (h : s.consequence = some t) :
    t.consequencesLeft < s.consequencesLeft := by
  have others (hs : t.startup = s.startup) (hlt : t.servedLeft < s.servedLeft) :
      t.consequencesLeft < s.consequencesLeft := by
    have left : t.startupLeft = s.startupLeft := by rw [State.startupLeft, hs, State.startupLeft]
    unfold State.consequencesLeft
    omega
  have turn (hlt : t.startupLeft < s.startupLeft) : t.consequencesLeft < s.consequencesLeft := by
    have hle := t.servedLeft_le
    unfold State.consequencesLeft
    omega
  rcases (State.consequence_drawn h).startup_eq_or_lowers with hs | hlt
  · rcases State.consequence_cases h with h | h | h | h | h | h
    · exact others hs (State.settleAccess_lowers h)
    · exact others hs (State.settleFlush_lowers h)
    · exact others hs (State.settleFill_lowers h)
    · exact others hs (State.settleQueue_lowers h)
    · exact others hs (State.settleBufferWait_lowers h)
    · exact turn (State.settleStartup_lowers h)
  · exact turn hlt

/-- Drawing as many consequences as the count allows leaves none to draw. -/
theorem settleFor_settled {n : Nat} {s : State} (h : s.consequencesLeft ≤ n) : (settleFor n s).settled := by
  induction n generalizing s with
  | zero =>
    refine Option.eq_none_iff_forall_ne_some.mpr fun t ht => ?_
    have lower := State.consequence_lowers (s := s) ht
    omega
  | succ n ih =>
    unfold settleFor
    split
    · assumption
    · rename_i t ht
      have lower := State.consequence_lowers ht
      exact ih (by omega)

/-- The bound on the consequences of a step is never reached. -/
theorem State.settle_settled (s : State) : s.settle.settled := settleFor_settled s.consequencesLeft_le

/-! ### Every row ends settled -/

theorem State.raise_sameConditions (s : State) (f : EventFlag) : s.SameConditions (s.raise f) :=
  ⟨rfl, rfl, rfl, rfl, rfl, rfl, rfl, rfl, rfl, rfl, rfl, rfl, rfl⟩

/-- The clock, the queue of commands and FLUSHREQ# are no fields that a condition reads. -/
theorem State.sameConditions_pins (s : State) (now : Time) (pending : List Instr) (low : Bool) :
    s.SameConditions { s with now := now, pending := pending, flushreqLow := low } :=
  ⟨rfl, rfl, rfl, rfl, rfl, rfl, rfl, rfl, rfl, rfl, rfl, rfl, rfl⟩

theorem State.conclude_settled (s before : State) : (s.conclude before).settled := by
  unfold State.conclude State.noteShort
  split
  · exact (State.raise_sameConditions _ _).settled s.settle_settled
  · exact s.settle_settled

theorem State.settled_of_act {s t : State} {f : State → State} (hs : s.settled) (h : s.act f = .next t) :
    t.settled := by
  unfold State.act at h
  split at h
  · cases h
    exact hs
  · cases h
    exact State.conclude_settled _ _

theorem State.openTransaction_sameConditions (s : State) (v : Byte) : s.SameConditions (s.openTransaction v) := by
  unfold State.openTransaction
  split <;> exact ⟨rfl, rfl, rfl, rfl, rfl, rfl, rfl, rfl, rfl, rfl, rfl, rfl, rfl⟩

/-- While reset is held no unit has anything to do. -/
theorem State.beginReset_settled (s : State) : s.beginReset.settled :=
  State.settled_iff.mpr ⟨rfl, rfl, rfl, rfl, rfl, rfl⟩

theorem State.endReset_settled (s : State) (style : CycleStyle) (msa below : Bool) :
    (s.endReset style msa below).settled := by
  exact State.settled_iff.mpr ⟨rfl, rfl, rfl, rfl, rfl, rfl⟩

/-- Every row but those of reset, the address byte and the edges of FLUSHREQ# is an effect and its consequences. -/
theorem exec_act (c : Instr) (s : State) : commandClass c = .reset ∨ (∃ v, c = .managementAddressByte v) ∨
    c = .flushreqFall ∨ c = .flushreqRise ∨ ∃ f, exec c s = s.act f := by
  cases c with
  | powerOnReset => exact .inl rfl
  | rstAssert => exact .inl rfl
  | resetEnd => exact .inl rfl
  | managementAddressByte v => exact .inr (.inl ⟨v, rfl⟩)
  | flushreqFall => exact .inr (.inr (.inl rfl))
  | flushreqRise => exact .inr (.inr (.inr (.inl rfl)))
  | _ =>
    refine .inr (.inr (.inr (.inr ?_)))
    simp only [exec, execHostAccessStart, execHostAccessEnd, execWaitDeadline, execHoldDeadline, execArbiterStart,
      execPageFetchComplete, execTransferError, execCommitStart, execAbsentHandover, execProgramComplete, execPollDue,
      execPollAcknowledge, execPollRefuse, execProgramTimeout, execCheckReadComplete, execAgeDeadline,
      execStreamReadComplete, execProbeSelectDue, execProbeSelectAcknowledge, execProbeSelectRefuse, execProbeDeadline,
      execDescriptorReadComplete, execSupplyBelowWarning, execSupplyAboveWarning, execSagTimerExpiry,
      execSupplyAboveRecovery, execSupplyBelowRecovery, execRecoveryTimerExpiry, execPointerByte, execDataByte,
      execManagementReadByte, execManagementTransactionEnd, State.applyRow, execRegionApply, execWatchApply,
      execSettingsApply, execEventFlagClear, execFaultRecordEmpty, execReadOnlyApply, execCommandArgumentStore,
      execFlush, execBarrier, execRetry, execDiscard, execDropClean, execReprobe, execUnknownCommand]
    exact ⟨_, rfl⟩
theorem exec_reset_settled {c : Instr} {s t : State} (hc : commandClass c = .reset) (h : exec c s = .next t)
    (hs : s.settled) : t.settled := by
  cases c with
  | powerOnReset =>
    cases h
    exact s.beginReset_settled
  | rstAssert =>
    cases h
    exact s.beginReset_settled
  | resetEnd style msa below =>
    simp only [exec, execResetEnd] at h
    split at h
    · cases h
      exact s.endReset_settled style msa below
    · cases h
      exact hs
  | _ => cases hc

theorem exec_settled {c : Instr} {s t : State} (h : exec c s = .next t) (hs : s.settled) : t.settled := by
  rcases exec_act c s with hc | ⟨v, rfl⟩ | rfl | rfl | ⟨f, hf⟩
  · exact exec_reset_settled hc h hs
  · simp only [exec, execManagementAddressByte] at h
    split at h
    · cases h
      exact hs
    · cases h
      exact (State.openTransaction_sameConditions _ v).settled (State.conclude_settled _ _)
  · simp only [exec, execFlushreqFall] at h
    split at h
    · cases h
      exact (s.sameConditions_pins _ _ _).settled hs
    · exact State.settled_of_act hs h
  · cases h
    exact (s.sameConditions_pins _ _ _).settled hs
  · exact State.settled_of_act hs (hf.symm.trans h)

/-- Settles O59: each consequence lowers a count that starts below the bound, so drawing them ends with none left; the rows
that draw none change nothing that a condition reads, or leave the reset values. -/
theorem stepEndsSettled : Obligations.StepEndsSettled := by
  intro s t hs h
  unfold step at h
  split at h
  · cases h
    exact (s.sameConditions_pins _ _ _).settled hs
  · exact exec_settled h ((s.sameConditions_pins _ _ _).settled hs)

end Sys2Proof.Machine
end

section
/-! PROOFS. The commit queue: what its operations keep of its form, of the entries and of the markers before them (R61,
R63, R64, R65, R80). -/
namespace Sys2Proof.Machine

@[simp] theorem QueueEntry.isMarker_buffer (b : Fin 16) (aged push : Bool) :
    (QueueEntry.buffer b aged push).isMarker = false := rfl

@[simp] theorem QueueEntry.isMarker_marker (f : Bool) : (QueueEntry.marker f).isMarker = true := rfl

@[simp] theorem QueueEntry.isFor_buffer (b b' : Fin 16) (aged push : Bool) :
    (QueueEntry.buffer b aged push).isFor b' = decide (b = b') := rfl

@[simp] theorem QueueEntry.isFor_marker (f : Bool) (b : Fin 16) : (QueueEntry.marker f).isFor b = false := rfl

@[simp] theorem QueueEntry.isMarked_unmark (e : QueueEntry) : e.unmark.isMarked = false := by
  cases e <;> rfl

theorem QueueEntry.isMarker_eq (e : QueueEntry) : e.isMarker = e.buffer?.isNone := by
  cases e <;> rfl

theorem QueueEntry.isFor_eq (b : Fin 16) (e : QueueEntry) : e.isFor b = decide (e.buffer? = some b) := by
  cases e <;> simp [QueueEntry.isFor, QueueEntry.buffer?]

theorem QueueEntry.isMarker_of_isMarked {e : QueueEntry} (h : e.isMarked = true) : e.isMarker = true := by
  cases e with
  | buffer => cases h
  | marker => rfl

namespace Queue

/-! ### The shape of a queue -/

/-- The buffers and, as `none`, the markers of a queue in their places; causes and flush marks aside. -/
def shape (q : List QueueEntry) : List (Option (Fin 16)) := q.map (·.buffer?)

theorem countP_isFor (q : List QueueEntry) (b : Fin 16) : q.countP (·.isFor b) = (shape q).count (some b) := by
  simp only [shape, List.count, List.countP_map, Function.comp_def, QueueEntry.isFor_eq, beq_eq_decide]

theorem markerCount_eq (q : List QueueEntry) : markerCount q = (shape q).count none := by
  simp only [markerCount, shape, List.count, List.countP_map, Function.comp_def, QueueEntry.isMarker_eq]
  congr 1
  funext e
  cases e.buffer? <;> rfl

theorem headGood_iff (q : List QueueEntry) : headGood q = true ↔ (shape q).head? ≠ some none := by
  cases q with
  | nil => simp [headGood, shape]
  | cons e q => cases e <;> simp [headGood, shape, QueueEntry.buffer?]

theorem spaced_iff (q : List QueueEntry) :
    spaced q = true ↔ (shape q).IsChain fun x y => x ≠ none ∨ y ≠ none := by
  induction q with
  | nil => simp [spaced, shape]
  | cons e q ih =>
    cases q with
    | nil => simp [spaced, shape]
    | cons e' q =>
      have hshape : shape (e :: e' :: q) = e.buffer? :: e'.buffer? :: (shape q) := rfl
      rw [hshape, List.isChain_cons_cons, show e'.buffer? :: shape q = shape (e' :: q) from rfl, ← ih]
      cases e <;> cases e' <;> simp [spaced, QueueEntry.buffer?]

/-- Whether a marker stands before the entry of `b`, by the place that comes first. -/
theorem markerBefore_cons (e : QueueEntry) (q : List QueueEntry) (b : Fin 16) :
    markerBefore (e :: q) b = (!e.isFor b && (e.isMarker || markerBefore q b)) := by
  unfold markerBefore before
  rw [List.takeWhile_cons]
  cases e.isFor b <;> simp

theorem markerBefore_eq (q : List QueueEntry) (b : Fin 16) :
    markerBefore q b = ((shape q).takeWhile fun x => !decide (x = some b)).any (·.isNone) := by
  induction q with
  | nil => rfl
  | cons e q ih =>
    rw [markerBefore_cons, ih, QueueEntry.isMarker_eq, QueueEntry.isFor_eq,
      show shape (e :: q) = e.buffer? :: shape q from rfl, List.takeWhile_cons]
    cases decide (e.buffer? = some b) <;> simp

/-- A queue of the same shape, with at most one flush mark, is as good. -/
theorem canonical_of_shape {q q' : List QueueEntry} (h : canonical q) (hs : shape q' = shape q)
    (hm : q'.countP (·.isMarked) ≤ 1) : canonical q' := by
  obtain ⟨hhead, hspaced, hcount, -⟩ := h
  refine ⟨?_, ?_, fun b => ?_, hm⟩
  · rw [headGood_iff, hs, ← headGood_iff]
    exact hhead
  · rw [spaced_iff, hs, ← spaced_iff]
    exact hspaced
  · rw [countP_isFor, hs, ← countP_isFor]
    exact hcount b

/-- `q'` has the entries of `q`, and no marker has come to stand before one. -/
structure Keeps (q q' : List QueueEntry) : Prop where
  canonical : canonical q → canonical q'
  count : ∀ b, q'.countP (·.isFor b) = q.countP (·.isFor b)
  front : ∀ b, q.countP (·.isFor b) = 1 → markerBefore q b = false → markerBefore q' b = false

theorem Keeps.refl (q : List QueueEntry) : Keeps q q := ⟨id, fun _ => rfl, fun _ _ h => h⟩

theorem Keeps.trans {q q' q'' : List QueueEntry} (h : Keeps q q') (h' : Keeps q' q'') : Keeps q q'' :=
  ⟨h'.canonical ∘ h.canonical, fun b => (h'.count b).trans (h.count b),
    fun b hb hq => h'.front b ((h.count b).trans hb) (h.front b hb hq)⟩

theorem Keeps.of_shape {q q' : List QueueEntry} (hs : shape q' = shape q)
    (hm : q'.countP (·.isMarked) ≤ max 1 (q.countP (·.isMarked))) : Keeps q q' where
  canonical h := canonical_of_shape h hs (by
    obtain ⟨-, -, -, hone⟩ := h
    omega)
  count b := by rw [countP_isFor, hs, ← countP_isFor]
  front b _ h := by rwa [markerBefore_eq, hs, ← markerBefore_eq]

/-! ### Causes and flush marks -/

theorem shape_map {f : QueueEntry → QueueEntry} (h : ∀ e, (f e).buffer? = e.buffer?) (q : List QueueEntry) :
    shape (q.map f) = shape q := by
  simp only [shape, List.map_map, Function.comp_def, h]

theorem givePush_keeps (q : List QueueEntry) (b : Fin 16) : Keeps q (givePush q b) := by
  refine .of_shape (shape_map (fun e => by cases e <;> rfl) q) ?_
  simp only [givePush, List.countP_map, Function.comp_def, isMarked_pushFor]
  omega

theorem giveAged_keeps (q : List QueueEntry) (b : Fin 16) : Keeps q (giveAged q b) := by
  have marked (e : QueueEntry) : (e.ageFor b).isMarked = e.isMarked := by cases e <;> rfl
  refine .of_shape (shape_map (fun e => by cases e <;> rfl) q) ?_
  simp only [giveAged, List.countP_map, Function.comp_def, marked]
  omega

theorem unmark_keeps (q : List QueueEntry) : Keeps q (unmark q) := by
  refine .of_shape (shape_map (fun e => by cases e <;> rfl) q) ?_
  simp [unmark, List.countP_map, Function.comp_def]

theorem shape_markTail (q : List QueueEntry) : shape (markTail q) = shape q := by
  induction q using markTail.induct with
  | case1 => rfl
  | case2 f => rfl
  | case3 e rest hne ih =>
    rw [markTail]
    · exact congrArg (e.buffer? :: ·) ih
    · exact hne

theorem countP_isMarked_markTail {q : List QueueEntry} (h : q.countP (·.isMarked) = 0) :
    (markTail q).countP (·.isMarked) ≤ 1 := by
  induction q using markTail.induct with
  | case1 => exact Nat.zero_le 1
  | case2 f => exact le_refl 1
  | case3 e rest hne ih =>
    rw [markTail]
    · rw [List.countP_cons] at h ⊢
      have := ih (by omega)
      omega
    · exact hne

/-- The flush mark is moved to the marker at the tail (R80). -/
theorem markTail_unmark_keeps (q : List QueueEntry) : Keeps q (markTail (unmark q)) := by
  have hone : (markTail (unmark q)).countP (·.isMarked) ≤ 1 :=
    countP_isMarked_markTail (by simp [unmark, List.countP_map, Function.comp_def])
  refine .of_shape ((shape_markTail _).trans (shape_map (fun e => by cases e <;> rfl) q)) ?_
  omega

/-! ### Appending -/

/-- A marker or an entry behind the others stands before none of them. -/
theorem markerBefore_concat {q : List QueueEntry} {b : Fin 16} (h : q.countP (·.isFor b) = 1) (e : QueueEntry) :
    markerBefore (q ++ [e]) b = markerBefore q b := by
  induction q with
  | nil => cases h
  | cons e' q ih =>
    rw [List.cons_append, markerBefore_cons, markerBefore_cons]
    cases he : e'.isFor b with
    | true => rfl
    | false => rw [ih (by simpa [he] using h)]

/-- A barrier request appends its marker behind a buffer entry alone (R65). -/
theorem barrier_keeps (q : List QueueEntry) : Keeps q (barrier q) := by
  unfold barrier
  split
  · rename_i b aged push hlast
    have counted (b : Fin 16) :
        (q ++ [QueueEntry.marker false]).countP (·.isFor b) = q.countP (·.isFor b) := by
      simp
    refine ⟨fun ⟨hhead, hspaced, hcount, hmark⟩ => ⟨?_, ?_, fun b => ?_, ?_⟩, counted, fun b hb h => ?_⟩
    · rw [headGood_iff] at hhead ⊢
      cases q with
      | nil => cases hlast
      | cons e q => exact hhead
    · rw [spaced_iff] at hspaced ⊢
      rw [shape, List.map_append, List.isChain_append]
      refine ⟨hspaced, List.isChain_singleton _, fun x hx y _ => .inl ?_⟩
      rw [List.getLast?_map, hlast] at hx
      cases hx
      exact Option.some_ne_none b
    · rw [counted]
      exact hcount b
    · simpa [QueueEntry.isMarked] using hmark
    · rw [markerBefore_concat hb, h]
  · exact .refl q

theorem append_canonical {q : List QueueEntry} {b : Fin 16} (h : canonical q) (hb : q.countP (·.isFor b) = 0) :
    canonical (append q b) := by
  obtain ⟨hhead, hspaced, hcount, hmark⟩ := h
  refine ⟨?_, ?_, fun b' => ?_, ?_⟩
  · rw [headGood_iff] at hhead ⊢
    cases q with
    | nil => exact nofun
    | cons e q => exact hhead
  · rw [spaced_iff] at hspaced ⊢
    rw [append, shape, List.map_append, List.isChain_append]
    refine ⟨hspaced, List.isChain_singleton _, fun x _ y hy => .inr ?_⟩
    cases hy
    exact Option.some_ne_none b
  · rw [append, List.countP_append, List.countP_singleton]
    split
    · rename_i hfor
      have heq : b = b' := by simpa [QueueEntry.isFor] using hfor
      rw [← heq, hb]
    · exact hcount b'
  · simpa [append, QueueEntry.isMarked] using hmark

theorem countP_isFor_append (q : List QueueEntry) (b b' : Fin 16) :
    (append q b).countP (·.isFor b') = q.countP (·.isFor b') + if b' = b then 1 else 0 := by
  rw [append, List.countP_append, List.countP_singleton]
  simp only [QueueEntry.isFor_buffer, decide_eq_true_eq, @eq_comm _ b b']

/-! ### Removal (R63, R64) -/

theorem spaced_consMerged {e : QueueEntry} {q : List QueueEntry} (h : spaced q = true) :
    spaced (consMerged e q) = true := by
  cases e with
  | buffer b aged push =>
    rw [consMerged]
    · cases q <;> exact h
    · exact nofun
  | marker f =>
    cases q with
    | nil => rfl
    | cons e' q =>
      cases e' with
      | buffer b aged push => exact h
      | marker g =>
        cases q with
        | nil => rfl
        | cons e'' q => cases e'' <;> exact h

theorem countP_consMerged {p : QueueEntry → Bool} (hp : ∀ f, p (.marker f) = false) (e : QueueEntry)
    (q : List QueueEntry) : (consMerged e q).countP p = (e :: q).countP p := by
  unfold consMerged
  split
  · simp [hp]
  · rfl

theorem countP_isMarked_consMerged (e : QueueEntry) (q : List QueueEntry) :
    (consMerged e q).countP (·.isMarked) ≤ (e :: q).countP (·.isMarked) := by
  unfold consMerged
  split
  · rename_i f g rest
    cases f <;> cases g <;> simp [QueueEntry.isMarked]
  · exact le_rfl

theorem markerBefore_consMerged (e : QueueEntry) (q : List QueueEntry) (b : Fin 16) :
    markerBefore (consMerged e q) b = markerBefore (e :: q) b := by
  unfold consMerged
  split
  · simp [markerBefore_cons, QueueEntry.isFor, QueueEntry.isMarker]
  · rfl

/-- What merging keeps, entry by entry. -/
theorem mergeMarkers_spec (q : List QueueEntry) : spaced (mergeMarkers q) = true ∧
    (∀ b, (mergeMarkers q).countP (·.isFor b) = q.countP (·.isFor b)) ∧
    (mergeMarkers q).countP (·.isMarked) ≤ q.countP (·.isMarked) ∧
    ∀ b, markerBefore (mergeMarkers q) b = markerBefore q b := by
  induction q with
  | nil => exact ⟨rfl, fun _ => rfl, le_rfl, fun _ => rfl⟩
  | cons e q ih =>
    obtain ⟨hspaced, hcount, hmark, hfront⟩ := ih
    rw [mergeMarkers, List.foldr_cons, ← mergeMarkers]
    refine ⟨spaced_consMerged hspaced, fun b => ?_, ?_, fun b => ?_⟩
    · rw [countP_consMerged (fun _ => rfl), List.countP_cons, List.countP_cons, hcount]
    · refine (countP_isMarked_consMerged e _).trans ?_
      rw [List.countP_cons, List.countP_cons]
      omega
    · rw [markerBefore_consMerged, markerBefore_cons, markerBefore_cons, hfront]

theorem spaced_tail {e : QueueEntry} {q : List QueueEntry} (h : spaced (e :: q) = true) : spaced q = true := by
  rw [spaced_iff] at h ⊢
  exact h.tail

/-- What dropping a marker at the head keeps. -/
theorem dropHeadMarker_spec {q : List QueueEntry} (h : spaced q = true) : headGood (dropHeadMarker q) = true ∧
    spaced (dropHeadMarker q) = true ∧ (∀ b, (dropHeadMarker q).countP (·.isFor b) = q.countP (·.isFor b)) ∧
    (dropHeadMarker q).countP (·.isMarked) ≤ q.countP (·.isMarked) ∧
    ∀ b, markerBefore q b = false → markerBefore (dropHeadMarker q) b = false := by
  cases q with
  | nil => exact ⟨rfl, rfl, fun _ => rfl, le_rfl, fun _ h => h⟩
  | cons e q =>
    cases e with
    | buffer b aged push => exact ⟨rfl, h, fun _ => rfl, le_rfl, fun _ h => h⟩
    | marker f =>
      refine ⟨?_, spaced_tail h, fun b => rfl, ?_, fun b hb => ?_⟩
      · cases q with
        | nil => rfl
        | cons e' q =>
          cases e' with
          | buffer => rfl
          | marker => cases h
      · rw [List.countP_cons]
        exact Nat.le_add_right _ _
      · rw [markerBefore_cons] at hb
        cases hb

theorem countP_isFor_without (q : List QueueEntry) (b b' : Fin 16) :
    (without q b).countP (·.isFor b') = if b' = b then 0 else q.countP (·.isFor b') := by
  rw [without, List.countP_filter]
  by_cases hb : b' = b
  · subst hb
    simp
  · rw [if_neg hb]
    congr 1
    funext e
    cases e with
    | buffer b'' aged push =>
      by_cases h : b'' = b'
      · subst h
        simp [QueueEntry.isFor, hb]
      · simp [QueueEntry.isFor, h]
    | marker f => rfl

theorem markerBefore_without {q : List QueueEntry} {b b' : Fin 16} (hb : b' ≠ b) (h : markerBefore q b' = false) :
    markerBefore (without q b) b' = false := by
  induction q with
  | nil => exact h
  | cons e q ih =>
    rw [markerBefore_cons] at h
    rw [without, List.filter_cons]
    cases he : e.isFor b' with
    | true =>
      have hne : e.isFor b = false := by
        cases e with
        | buffer b'' aged push =>
          simp only [QueueEntry.isFor, decide_eq_true_eq, decide_eq_false_iff_not] at he ⊢
          exact fun h => hb (he.symm.trans h)
        | marker f => rfl
      rw [hne, Bool.not_false, if_pos rfl, markerBefore_cons, he]
      rfl
    | false =>
      simp only [he, Bool.not_false, Bool.true_and, Bool.or_eq_false_iff] at h
      obtain ⟨hmarker, hrest⟩ := h
      split
      · rw [markerBefore_cons, he, hmarker, ← without, ih hrest]
        rfl
      · exact ih hrest

/-- What the removal of an entry leaves: the queue's form, the other entries, and no marker before one that had none. -/
theorem normalise_without {q : List QueueEntry} (h : canonical q) (b : Fin 16) :
    canonical (normalise (without q b)) ∧
    (∀ b', (normalise (without q b)).countP (·.isFor b') = if b' = b then 0 else q.countP (·.isFor b')) ∧
    ∀ b', b' ≠ b → markerBefore q b' = false → markerBefore (normalise (without q b)) b' = false := by
  obtain ⟨-, -, hcount, hmark⟩ := h
  obtain ⟨hspaced, hfor, hmarked, hfront⟩ := mergeMarkers_spec (without q b)
  obtain ⟨hhead', hspaced', hfor', hmarked', hfront'⟩ := dropHeadMarker_spec hspaced
  have counted (b' : Fin 16) :
      (normalise (without q b)).countP (·.isFor b') = if b' = b then 0 else q.countP (·.isFor b') :=
    (hfor' b').trans ((hfor b').trans (countP_isFor_without q b b'))
  have filtered : (without q b).countP (·.isMarked) ≤ q.countP (·.isMarked) := List.filter_sublist.countP_le
  refine ⟨⟨hhead', hspaced', fun b' => ?_, ?_⟩, counted, fun b' hb h => hfront' b' ?_⟩
  · rw [counted]
    split
    · exact Nat.zero_le 1
    · exact hcount b'
  · exact (hmarked'.trans hmarked).trans (filtered.trans hmark)
  · rw [hfront]
    exact markerBefore_without hb h

/-! ### The length of the queue (R64) -/

/-- A marker stands behind a buffer entry, so the markers are no more than the entries. -/
theorem markers_le {q : List QueueEntry} (h : spaced q = true) :
    markerCount q ≤ q.countP (fun e => !e.isMarker) + if headGood q then 0 else 1 := by
  induction q with
  | nil => exact Nat.zero_le _
  | cons e q ih =>
    have ih := ih (spaced_tail h)
    unfold markerCount at ih ⊢
    rw [List.countP_cons, List.countP_cons]
    cases e with
    | buffer b aged push =>
      have hgood : headGood (.buffer b aged push :: q) = true := rfl
      rw [hgood]
      simp only [QueueEntry.isMarker_buffer, Bool.not_false, if_true, Bool.false_eq_true, if_false]
      split at ih <;> omega
    | marker f =>
      have hgood : headGood q = true := by
        cases q with
        | nil => rfl
        | cons e' q =>
          cases e' with
          | buffer => rfl
          | marker => cases h
      have hbad : headGood (.marker f :: q) = false := rfl
      rw [hbad]
      rw [hgood] at ih
      simp only [QueueEntry.isMarker_marker, Bool.not_true, if_true, Bool.false_eq_true, if_false] at ih ⊢
      omega

theorem entries_eq_sum (q : List QueueEntry) :
    q.countP (fun e => !e.isMarker) = ∑ b : Fin 16, q.countP (·.isFor b) := by
  induction q with
  | nil => simp
  | cons e q ih =>
    simp only [List.countP_cons, Finset.sum_add_distrib, ← ih]
    cases e with
    | buffer b aged push => simp [QueueEntry.isMarker, QueueEntry.isFor]
    | marker f => simp [QueueEntry.isMarker, QueueEntry.isFor]

theorem length_le_of_canonical {q : List QueueEntry} (h : canonical q) : q.length ≤ 32 ∧ markerCount q ≤ 16 := by
  obtain ⟨hhead, hspaced, hcount, -⟩ := h
  have entries : q.countP (fun e => !e.isMarker) ≤ 16 := by
    rw [entries_eq_sum]
    calc ∑ b : Fin 16, q.countP (·.isFor b)
        ≤ ∑ _b : Fin 16, 1 := Finset.sum_le_sum fun b _ => hcount b
      _ = 16 := by simp
  have markers := markers_le hspaced
  rw [hhead, if_pos rfl] at markers
  have length : q.length = markerCount q + q.countP (fun e => !e.isMarker) := by
    simp only [markerCount, List.length_eq_countP_add_countP (fun e : QueueEntry => e.isMarker),
      Bool.not_eq_true, Bool.decide_eq_false]
  omega

end Queue

end Sys2Proof.Machine
end

section
/-! PROOFS. Buffers, recency list, queue and fetches in agreement: what each operation of the Pool, the Scheduler and the
Engine keeps of it, one buffer at a time (R34, R35, R36, R37, R40, R61, R64, R71). -/
namespace Sys2Proof.Machine

/-! ### Coherence, one buffer at a time -/

/-- All that coherence says but for the record of `b` in itself. -/
structure State.CoherentBut (b : Fin 16) (s : State) : Prop where
  queue : Queue.canonical s.queue
  records : ∀ b' : Fin 16, b' ≠ b → s.buffers[b'].mapsNested ∧ s.buffers[b'].fitsState = true
  paired : s.paired
  tags : s.tagsUnique
  recency : s.recencyGood
  fills : s.fillsGood
  commits : s.commitsGood

theorem State.coherent.but {s : State} (h : s.coherent) (b : Fin 16) : s.CoherentBut b := by
  obtain ⟨hq, hb, hp, ht, hr, hf, hc⟩ := h
  exact ⟨hq, fun b' _ => hb b', hp, ht, hr, hf, hc⟩

theorem State.CoherentBut.coherent {s : State} {b : Fin 16} (h : s.CoherentBut b) (hn : s.buffers[b].mapsNested)
    (hf : s.buffers[b].fitsState = true) : s.coherent := by
  refine ⟨h.queue, fun b' => ?_, h.paired, h.tags, h.recency, h.fills, h.commits⟩
  by_cases hb : b' = b
  · subst hb
    exact ⟨hn, hf⟩
  · exact h.records b' hb

/-- `t` has what `s` has of every buffer but `b`. -/
structure State.ChangesOnly (b : Fin 16) (s t : State) : Prop where
  buffers : s.SameBuffersBut b t
  count : ∀ b', b' ≠ b → t.queue.countP (·.isFor b') = s.queue.countP (·.isFor b')
  front : ∀ b', b' ≠ b → s.queue.countP (·.isFor b') = 1 → Queue.markerBefore s.queue b' = false →
    Queue.markerBefore t.queue b' = false
  recency : ∀ b', b' ≠ b → (b' ∈ t.recency ↔ b' ∈ s.recency)
  fetches : ∀ b', b' ≠ b → t.fetchesPending b' = s.fetchesPending b'

/-- What coherence says of the place of `b` among the others. -/
structure State.Places (b : Fin 16) (s : State) : Prop where
  count : s.queue.countP (·.isFor b) = if s.buffers[b].state.hasEntry then 1 else 0
  recency : b ∈ s.recency ↔ s.buffers[b].state ≠ .free
  fetches : s.fetchesPending b = if s.buffers[b].fill then 1 else 0
  tag : s.buffers[b].tag ≠ none → ∀ b' : Fin 16, b' ≠ b → s.buffers[b'].tag ≠ s.buffers[b].tag
  front : s.buffers[b].state = .committing → Queue.markerBefore s.queue b = false
  alone : s.buffers[b].state = .committing → ∀ b' : Fin 16, b' ≠ b → s.buffers[b'].state = .committing →
    s.deviceOfBuffer b' ≠ s.deviceOfBuffer b

theorem State.CoherentBut.places {s : State} {b : Fin 16} (h : s.CoherentBut b) : s.Places b where
  count := h.paired b
  recency := h.recency.2 b
  fetches := h.fills b
  tag ht b' hb heq := hb (h.tags b b' ht heq.symm).symm
  front := h.commits.1 b
  alone hc b' hb hc' heq := hb (h.commits.2 b' b hc' hc heq)

/-- A change at `b` alone that gives it its place keeps coherence, its record aside. -/
theorem State.CoherentBut.change {s t : State} {b : Fin 16} (hs : s.CoherentBut b) (h : s.ChangesOnly b t)
    (hq : Queue.canonical t.queue) (hn : t.recency.Nodup) (hb : t.Places b) : t.CoherentBut b where
  queue := hq
  records b' hne := by
    rw [h.buffers b' hne]
    exact hs.records b' hne
  paired b' := by
    by_cases hne : b' = b
    · subst hne
      exact hb.count
    · rw [h.count b' hne, h.buffers b' hne]
      exact hs.paired b'
  tags b₁ b₂ ht heq := by
    by_contra hne
    by_cases h₁ : b₁ = b
    · subst h₁
      exact hb.tag ht b₂ (Ne.symm hne) heq.symm
    · by_cases h₂ : b₂ = b
      · subst h₂
        exact hb.tag (heq ▸ ht) b₁ hne heq
      · rw [h.buffers b₁ h₁] at ht heq
        rw [h.buffers b₂ h₂] at heq
        exact hne (hs.tags b₁ b₂ ht heq)
  recency := by
    refine ⟨hn, fun b' => ?_⟩
    by_cases hne : b' = b
    · subst hne
      exact hb.recency
    · rw [h.recency b' hne, h.buffers b' hne]
      exact hs.recency.2 b'
  fills b' := by
    by_cases hne : b' = b
    · subst hne
      exact hb.fetches
    · rw [h.fetches b' hne, h.buffers b' hne]
      exact hs.fills b'
  commits := by
    refine ⟨fun b' hc => ?_, fun b₁ b₂ hc₁ hc₂ heq => ?_⟩
    · by_cases hne : b' = b
      · subst hne
        exact hb.front hc
      · rw [h.buffers b' hne] at hc
        refine h.front b' hne ?_ (hs.commits.1 b' hc)
        rw [hs.paired b', hc]
        rfl
    · by_contra hne
      by_cases h₁ : b₁ = b
      · subst h₁
        exact hb.alone hc₁ b₂ (Ne.symm hne) hc₂ heq.symm
      · by_cases h₂ : b₂ = b
        · subst h₂
          exact hb.alone hc₂ b₁ hne hc₁ heq
        · simp only [State.deviceOfBuffer, h.buffers b₁ h₁, h.buffers b₂ h₂] at hc₁ hc₂ heq
          exact hne (hs.commits.2 b₁ b₂ hc₁ hc₂ heq)

/-! ### Fetches pending -/

/-- `t` has the buffers, recency list and pending fetches of `s`, and a queue that differs in markers and causes at most. -/
structure State.SamePool (s t : State) : Prop where
  buffers : t.buffers = s.buffers
  recency : t.recency = s.recency
  queue : Queue.Keeps s.queue t.queue
  fetches : ∀ b, t.fetchesPending b = s.fetchesPending b

theorem State.fetchesPending_congr {s t : State} (hr : t.requests = s.requests) (hl : t.link = s.link) (b : Fin 16) :
    t.fetchesPending b = s.fetchesPending b := by
  unfold State.fetchesPending State.fetchOnLink
  rw [hr, hl]

theorem State.SamePool.refl (s : State) : s.SamePool s := ⟨rfl, rfl, .refl _, fun _ => rfl⟩

theorem State.SamePool.trans {s t u : State} (h : s.SamePool t) (h' : t.SamePool u) : s.SamePool u :=
  ⟨h'.buffers.trans h.buffers, h'.recency.trans h.recency, h.queue.trans h'.queue,
    fun b => (h'.fetches b).trans (h.fetches b)⟩

theorem State.SamePool.of_frame {s t : State} (h : t.buffers = s.buffers ∧ t.recency = s.recency ∧
    t.queue = s.queue ∧ t.requests = s.requests ∧ t.link = s.link) : s.SamePool t := by
  obtain ⟨hb, hr, hq, hreq, hl⟩ := h
  exact ⟨hb, hr, by rw [hq]; exact .refl _, State.fetchesPending_congr hreq hl⟩

theorem State.SamePool.coherentBut {s t : State} {b : Fin 16} (h : s.SamePool t) (hs : s.CoherentBut b) :
    t.CoherentBut b := by
  obtain ⟨hq, hx, hp, ht, hr, hf, hc⟩ := hs
  constructor
  · exact h.queue.canonical hq
  · rwa [h.buffers]
  · simpa only [State.paired, h.queue.count, h.buffers] using hp
  · simpa only [State.tagsUnique, h.buffers] using ht
  · simpa only [State.recencyGood, h.recency, h.buffers] using hr
  · simpa only [State.fillsGood, h.fetches, h.buffers] using hf
  · obtain ⟨front, alone⟩ := hc
    rw [State.commitsGood, h.buffers]
    refine ⟨fun b' hb => h.queue.front b' ?_ (front b' hb), ?_⟩
    · rw [hp b', hb]
      rfl
    · simpa only [State.deviceOfBuffer, h.buffers] using alone

theorem State.SamePool.coherent {s t : State} (h : s.SamePool t) (hs : s.coherent) : t.coherent := by
  obtain ⟨-, hx, -⟩ := id hs
  refine (h.coherentBut (hs.but 0)).coherent ?_ ?_
  · rw [h.buffers]
    exact (hx 0).1
  · rw [h.buffers]
    exact (hx 0).2

/-- An operation that is no page fetch. -/
abbrev OperationKind.NoFetch (k : OperationKind) : Prop := ∀ b, k ≠ .pageFetch b

theorem State.fetchesPending_request (s : State) (o : Operation) (b : Fin 16) : (s.request o).fetchesPending b =
    s.fetchesPending b + if o.kind = .pageFetch b then 1 else 0 := by
  have same : (s.request o).fetchOnLink b = s.fetchOnLink b := rfl
  rw [State.fetchesPending, State.fetchesPending, same, State.request_requests, List.countP_append,
    List.countP_singleton]
  simp only [decide_eq_true_eq]
  omega

theorem State.request_samePool (s : State) {o : Operation} (h : o.kind.NoFetch) : s.SamePool (s.request o) :=
  ⟨rfl, rfl, .refl _, fun b => by rw [State.fetchesPending_request, if_neg (h b), Nat.add_zero]⟩

/-- Requests leave the set, and no page fetch is among them. -/
theorem State.fetchesPending_filter {s t : State} {p : Operation → Bool} (hr : t.requests = s.requests.filter p)
    (hl : t.link = s.link) {b : Fin 16} (h : ∀ o : Operation, o.kind = .pageFetch b → p o = true) :
    t.fetchesPending b = s.fetchesPending b := by
  simp only [State.fetchesPending, State.fetchOnLink, hl, hr, List.countP_filter]
  congr 2
  funext o
  by_cases ho : o.kind = .pageFetch b
  · simp [ho, h o ho]
  · simp [ho]

theorem State.withdraw_samePool (s : State) {k : OperationKind} (h : k.NoFetch) (d : Fin 4) :
    s.SamePool (s.withdraw k d) := by
  refine ⟨rfl, rfl, .refl _, fun b => State.fetchesPending_filter (s := s) (t := s.withdraw k d) rfl rfl fun o ho => ?_⟩
  rw [ho, decide_eq_false fun hk => h b hk.symm]
  rfl

theorem State.releaseSpan_samePool (s : State) (d : Fin 4) : s.SamePool (s.releaseSpan d) := .of_frame (by simp)

theorem State.withdrawCommit_samePool (s : State) (b : Fin 16) : s.SamePool (s.withdrawCommit b) := by
  unfold State.withdrawCommit
  split
  · exact .refl s
  · rename_i d _
    exact ((s.withdraw_samePool (k := .program b) nofun d).trans
      (State.withdraw_samePool _ (k := .checkRead b) nofun d)).trans (State.releaseSpan_samePool _ d)

/-! ### A record replaced -/

theorem State.setBuffer_changesOnly (s : State) (b : Fin 16) (x : PageBuffer) : s.ChangesOnly b (s.setBuffer b x) :=
  ⟨s.setBuffer_sameBuffersBut b x, fun _ _ => rfl, fun _ _ _ h => h, fun _ _ => Iff.rfl, fun _ _ => rfl⟩

theorem State.deviceOfBuffer_congr {s t : State} {b : Fin 16} (h : t.buffers[b].tag = s.buffers[b].tag) :
    t.deviceOfBuffer b = s.deviceOfBuffer b := by
  simp only [State.deviceOfBuffer, h]

theorem State.buffers_setBuffer_self (s : State) (b : Fin 16) (x : PageBuffer) : (s.setBuffer b x).buffers[b] = x := by
  rw [State.buffers_setBuffer, if_pos rfl]

/-- The record of a buffer may take another that has or lacks an entry alike, with its tag and fill flag, and that does not
come to be COMMITTING unless it may (R71). -/
theorem State.CoherentBut.setBuffer {s : State} {b : Fin 16} (hs : s.CoherentBut b) {x : PageBuffer}
    (he : x.state.hasEntry = s.buffers[b].state.hasEntry) (hfree : x.state = .free ↔ s.buffers[b].state = .free)
    (ht : x.tag = s.buffers[b].tag) (hf : x.fill = s.buffers[b].fill)
    (hc : x.state = .committing → Queue.markerBefore s.queue b = false ∧
      ∀ b' : Fin 16, b' ≠ b → s.buffers[b'].state = .committing → s.deviceOfBuffer b' ≠ s.deviceOfBuffer b) :
    (s.setBuffer b x).CoherentBut b := by
  have p := hs.places
  have self := s.buffers_setBuffer_self b x
  have others := s.setBuffer_sameBuffersBut b x
  refine hs.change (s.setBuffer_changesOnly b x) hs.queue hs.recency.1 ⟨?_, ?_, ?_, ?_, ?_, ?_⟩
  · rw [self, he]
    exact p.count
  · rw [self, Ne, hfree]
    exact p.recency
  · rw [self, hf]
    exact p.fetches
  · rw [self, ht]
    intro hne b' hb
    rw [others b' hb]
    exact p.tag hne b' hb
  · rw [self]
    exact fun h => (hc h).1
  · rw [self]
    intro h b' hb hc'
    rw [others b' hb] at hc'
    rw [State.deviceOfBuffer_congr (s := s) (b := b') (by rw [others b' hb]),
      State.deviceOfBuffer_congr (s := s) (t := s.setBuffer b x) (b := b) (by rw [self, ht])]
    exact (hc h).2 b' hb hc'

/-- The record of a buffer with an entry may take another with one. -/
theorem State.CoherentBut.setEntered {s : State} {b : Fin 16} (hs : s.CoherentBut b) {x : PageBuffer}
    (he : x.state.hasEntry = true) (hb : s.buffers[b].state.hasEntry = true) (ht : x.tag = s.buffers[b].tag)
    (hf : x.fill = s.buffers[b].fill) (hc : x.state = .committing → s.buffers[b].state = .committing) :
    (s.setBuffer b x).CoherentBut b := by
  refine hs.setBuffer (he.trans hb.symm) ⟨fun h => ?_, fun h => ?_⟩ ht hf fun h =>
    ⟨hs.places.front (hc h), hs.places.alone (hc h)⟩
  · rw [h] at he
    cases he
  · rw [h] at hb
    cases hb

/-! ### Requesting and cancelling a fetch (R40, R43) -/

theorem State.fetchesPending_setBuffer (s : State) (b b' : Fin 16) (x : PageBuffer) :
    (s.setBuffer b x).fetchesPending b' = s.fetchesPending b' := rfl

/-- The record of a buffer whose fill flag changes together with the fetches pending for it. -/
theorem State.CoherentBut.refill {s t : State} {b : Fin 16} (hs : s.CoherentBut b) {x : PageBuffer}
    (hb : t.buffers = (s.setBuffer b x).buffers) (hq : t.queue = s.queue) (hr : t.recency = s.recency)
    (ho : ∀ b', b' ≠ b → t.fetchesPending b' = s.fetchesPending b')
    (hf : t.fetchesPending b = if x.fill then 1 else 0) (he : x.state = s.buffers[b].state)
    (ht : x.tag = s.buffers[b].tag) : t.CoherentBut b := by
  have p := hs.places
  have self : t.buffers[b] = x := by rw [hb, State.buffers_setBuffer_self]
  have others : s.SameBuffersBut b t := fun b' hne => by rw [hb, s.setBuffer_sameBuffersBut b x b' hne]
  refine hs.change ⟨others, fun _ _ => by rw [hq], fun _ _ _ h => by rwa [hq], fun _ _ => by rw [hr], ho⟩
    (by rw [hq]; exact hs.queue) (by rw [hr]; exact hs.recency.1) ⟨?_, ?_, ?_, ?_, ?_, ?_⟩
  · rw [self, he, hq]
    exact p.count
  · rw [self, he, hr]
    exact p.recency
  · rw [self, hf]
  · rw [self, ht]
    intro hne b' hb'
    rw [others b' hb']
    exact p.tag hne b' hb'
  · rw [self, he, hq]
    exact p.front
  · rw [self, he]
    intro hc b' hb' hc'
    have same := others b' hb'
    rw [same] at hc'
    rw [State.deviceOfBuffer_congr (s := s) (t := t) (b := b) (by rw [self, ht]),
      State.deviceOfBuffer_congr (s := s) (t := t) (b := b') (by rw [same])]
    exact p.alone hc b' hb' hc'

/-- A fetch requested for an unpinned buffer. -/
theorem State.CoherentBut.requestFetch {s : State} {b : Fin 16} (hs : s.CoherentBut b)
    (hf : s.buffers[b].fill = false) : (s.requestFetch b).CoherentBut b := by
  unfold State.requestFetch
  split
  · exact hs
  · refine hs.refill (x := { s.buffers[b] with fill := true }) rfl rfl rfl (fun b' hb => ?_) ?_ rfl rfl
    · rw [State.fetchesPending_request, if_neg (fun h => hb (OperationKind.pageFetch.inj h).symm)]
      rfl
    · rw [State.fetchesPending_request, State.fetchesPending_setBuffer, hs.places.fetches, hf]
      simp

theorem State.fetchesPending_cancelFetch (s : State) (b b' : Fin 16) : (s.cancelFetch b).fetchesPending b' =
    if b' = b then (if s.fetchOnLink b then 1 else 0) else s.fetchesPending b' := by
  split
  · rename_i hb
    subst hb
    have gone : (s.cancelFetch b').requests.countP (fun o => decide (o.kind = .pageFetch b')) = 0 := by
      rw [State.cancelFetch, List.countP_filter, List.countP_eq_zero]
      intro o _
      by_cases ho : o.kind = .pageFetch b' <;> simp [ho]
    rw [State.fetchesPending, gone, Nat.zero_add]
    rfl
  · rename_i hb
    refine State.fetchesPending_filter (s := s) (t := s.cancelFetch b) rfl rfl fun o ho => ?_
    rw [ho, Bool.not_eq_true', decide_eq_false_iff_not]
    exact fun h => hb (OperationKind.pageFetch.inj h)

end Sys2Proof.Machine
end

section
/-! PROOFS. Coherence under the operations of the Port, the Window, the Watch Unit, the Pool and the Commit Engine (R38, R39,
R40, R49, R62, R63, R86, R88, R91, R98, R99, R100, R101, R104). -/
namespace Sys2Proof.Machine

/-! ### What leaves buffers, queue, recency list and fetches as they are -/

theorem State.waitOn_samePool (s : State) (w : Wait) : s.SamePool (s.waitOn w) := .of_frame (by simp)

theorem State.complete_samePool (s : State) (v : Byte) : s.SamePool (s.complete v) := .of_frame (by simp)

theorem State.refuse_samePool (s : State) (c : Cause) : s.SamePool (s.refuse c) := .of_frame (by simp)

theorem State.setAccess_samePool (s : State) (a : Option Access) : s.SamePool (s.setAccess a) :=
  .of_frame ⟨rfl, rfl, rfl, rfl, rfl⟩

theorem State.setDevice_samePool (s : State) (d : Fin 4) (x : Device) : s.SamePool (s.setDevice d x) :=
  .of_frame ⟨rfl, rfl, rfl, rfl, rfl⟩

theorem State.raise_samePool (s : State) (f : EventFlag) : s.SamePool (s.raise f) := .of_frame ⟨rfl, rfl, rfl, rfl, rfl⟩

theorem State.setStream_samePool (s : State) (x : Stream) : s.SamePool (s.setStream x) :=
  .of_frame ⟨rfl, rfl, rfl, rfl, rfl⟩

theorem State.setManagement_samePool (s : State) (m : Management) : s.SamePool (s.setManagement m) :=
  .of_frame ⟨rfl, rfl, rfl, rfl, rfl⟩

theorem State.advanceTo_samePool (s : State) (t : Time) : s.SamePool (s.advanceTo t) := .of_frame ⟨rfl, rfl, rfl, rfl, rfl⟩

/-- A change of the queue alone that keeps its entries. -/
theorem State.SamePool.of_queue {s t : State} (hq : Queue.Keeps s.queue t.queue) (h : t.buffers = s.buffers ∧
    t.recency = s.recency ∧ t.requests = s.requests ∧ t.link = s.link) : s.SamePool t := by
  obtain ⟨hb, hr, hreq, hl⟩ := h
  exact ⟨hb, hr, hq, State.fetchesPending_congr hreq hl⟩

theorem State.barrierRequest_samePool (s : State) : s.SamePool s.barrierRequest :=
  .of_queue (Queue.barrier_keeps _) ⟨rfl, rfl, rfl, rfl⟩

theorem State.givePush_samePool (s : State) (b : Fin 16) : s.SamePool (s.givePush b) :=
  .of_queue (Queue.givePush_keeps _ b) ⟨rfl, rfl, rfl, rfl⟩

theorem State.completeFlush_samePool (s : State) : s.SamePool s.completeFlush :=
  .of_queue (Queue.unmark_keeps _) ⟨rfl, rfl, rfl, rfl⟩

theorem State.flushRequest_samePool (s : State) : s.SamePool s.flushRequest := by
  unfold State.flushRequest
  split
  · exact .of_queue ((Queue.barrier_keeps _).trans (Queue.markTail_unmark_keeps _)) ⟨rfl, rfl, rfl, rfl⟩
  · exact s.raise_samePool _

theorem State.evaluateWatches_samePool (s : State) (a : HostAddress) (v : Byte) : s.SamePool (s.evaluateWatches a v) := by
  unfold State.evaluateWatches
  split
  · exact s.barrierRequest_samePool
  · exact .refl s

theorem State.completeWatch_samePool (s : State) (a : HostAddress) (v : Byte) (b : Fin 16) (n : Fin 8) :
    s.SamePool (State.completeWatch a v b s n) := by
  unfold State.completeWatch
  dsimp only
  split
  · generalize hu : ({ s with watches := s.watches.set n { s.watches[n] with lastMatch := s.watches[n].isMatch v } }) = u
    have hs : s.SamePool u := hu ▸ .of_frame ⟨rfl, rfl, rfl, rfl, rfl⟩
    split
    · have raised := hs.trans (u.raise_samePool (.watch n))
      have committed : s.SamePool (if s.watches[n].commit then (u.raise (.watch n)).givePush b else u.raise (.watch n)) := by
        split
        · exact raised.trans (State.givePush_samePool _ b)
        · exact raised
      split
      · exact committed.trans (State.barrierRequest_samePool _)
      · exact committed
    · exact hs
  · exact .refl s

theorem State.completeWatches_samePool (s : State) (a : HostAddress) (v : Byte) (b : Fin 16) :
    s.SamePool (s.completeWatches a v b) :=
  foldl_invariant (P := fun t => s.SamePool t) (.refl s) fun t n ht => ht.trans (t.completeWatch_samePool a v b n)

/-! ### The Window asks for stream reads alone -/

theorem State.streamWritten_samePool (s : State) (d : Fin 4) (a : Nat) : s.SamePool (s.streamWritten d a) :=
  .of_frame (by simp)

theorem State.streamDiscarded_samePool (s : State) (d : Fin 4) (p : Nat) : s.SamePool (s.streamDiscarded d p) :=
  .of_frame (by simp)

theorem State.stopBurst_samePool (s : State) : s.SamePool s.stopBurst := by
  unfold State.stopBurst
  split
  · exact .refl s
  · split
    · exact (s.withdraw_samePool (fun _ h => OperationKind.noConfusion h) _).trans (State.setStream_samePool _ _)
    · exact s.setStream_samePool _

theorem State.streamIdle_samePool (s : State) : s.SamePool s.streamIdle :=
  s.stopBurst_samePool.trans (State.setStream_samePool _ _)

theorem State.deviceStep_samePool (s : State) (c : StreamContext) : s.SamePool (s.deviceStep c) := by
  unfold State.deviceStep
  dsimp only
  split
  · split
    · exact s.setStream_samePool _
    · exact (s.setStream_samePool _).trans (State.request_samePool _ nofun)
  · exact .refl s

theorem State.planRefill_samePool (s : State) : s.SamePool s.planRefill := by
  unfold State.planRefill
  split
  · exact .refl s
  · split
    · exact (s.setStream_samePool _).trans (State.deviceStep_samePool _ _)
    · exact .refl s

theorem State.serveStream_samePool (s : State) : s.SamePool s.serveStream := by
  unfold State.serveStream
  split
  · dsimp only
    split
    · exact (s.complete_samePool _).trans (State.setStream_samePool _ _)
    · exact ((s.complete_samePool _).trans (State.setStream_samePool _ _)).trans (State.planRefill_samePool _)
  · exact .refl s

theorem State.resynchronise_samePool (s : State) (a : HostAddress) (d : Decode) : s.SamePool (s.resynchronise a d) := by
  unfold State.resynchronise
  exact (((s.complete_samePool _).trans (State.stopBurst_samePool _)).trans (State.setStream_samePool _ _)).trans
    (State.planRefill_samePool _)

theorem State.demandStream_samePool (s : State) : s.SamePool s.demandStream := by
  unfold State.demandStream
  split
  · exact s.refuse_samePool _
  · split
    · exact s.waitOn_samePool _
    · exact (s.waitOn_samePool _).trans (State.planRefill_samePool _)

theorem State.streamRead_samePool (s : State) (a : HostAddress) (d : Decode) : s.SamePool (s.streamRead a d) := by
  unfold State.streamRead
  split
  · exact s.resynchronise_samePool a d
  · split
    · split
      · exact s.demandStream_samePool
      · exact s.serveStream_samePool
    · exact s.resynchronise_samePool a d

theorem State.burstComplete_samePool (s : State) (data : Vector Byte 16) : s.SamePool (s.burstComplete data) := by
  unfold State.burstComplete
  split
  · exact .refl s
  · dsimp only
    split
    · exact (s.setStream_samePool _).trans (State.planRefill_samePool _)
    · split
      · exact (s.setStream_samePool _).trans (State.serveStream_samePool _)
      · exact (s.setStream_samePool _).trans (State.planRefill_samePool _)

theorem State.burstFailed_samePool (s : State) (x : Stall) : s.SamePool (s.burstFailed x) := by
  unfold State.burstFailed
  split
  · exact .refl s
  · dsimp only
    split
    · exact ((s.setStream_samePool _).trans (State.refuse_samePool _ _)).trans (State.planRefill_samePool _)
    · exact (s.setStream_samePool _).trans (State.planRefill_samePool _)

/-! ### Records and their states (R34, R35) -/

namespace PageBuffer

/-- A record that holds bytes not yet written to the device, with a commit region and at most `n` failures counted. -/
structure Unwritten (n : Nat) (x : PageBuffer) : Prop where
  nested : x.mapsNested
  bytes : x.dirty ||| x.inFlight ≠ 0
  tag : x.tag ≠ none
  attempts : x.attempts ≤ n
  region : x.commitRegion ≠ none

variable {x : PageBuffer}

theorem fits_free (h : x.state = .free) : x.fitsState = true ↔ x.valid = 0 ∧ x.dirty = 0 ∧ x.inFlight = 0 ∧ x.tag = none ∧
    x.fill = false ∧ x.attempts = 0 ∧ x.commitRegion = none ∧ x.ageDeadline = none ∧ x.stage = none ∧ x.sent = none := by
  simp only [fitsState, h, decide_eq_true_eq]

theorem fits_clean (h : x.state = .clean) : x.fitsState = true ↔ x.dirty = 0 ∧ x.inFlight = 0 ∧ x.tag ≠ none ∧
    x.attempts ≤ 2 ∧ x.commitRegion = none ∧ x.ageDeadline = none ∧ x.stage = none := by
  simp only [fitsState, h, decide_eq_true_eq]

theorem fits_dirty (h : x.state = .dirty) : x.fitsState = true ↔ x.dirty ≠ 0 ∧ x.inFlight = 0 ∧ x.tag ≠ none ∧
    x.attempts ≤ 2 ∧ x.commitRegion ≠ none ∧ x.stage = none := by
  simp only [fitsState, h, decide_eq_true_eq]

theorem fits_committing (h : x.state = .committing) : x.fitsState = true ↔ x.dirty ||| x.inFlight ≠ 0 ∧ x.tag ≠ none ∧
    x.attempts ≤ 2 ∧ x.commitRegion ≠ none ∧ x.stage ≠ none ∧ (x.stage = some .fill → x.inFlight = 0) := by
  simp only [fitsState, h, decide_eq_true_eq]

theorem fits_failed (h : x.state = .failed) : x.fitsState = true ↔ x.dirty ≠ 0 ∧ x.inFlight = 0 ∧ x.tag ≠ none ∧
    x.attempts ≤ 3 ∧ x.commitRegion ≠ none ∧ x.stage = none := by
  simp only [fitsState, h, decide_eq_true_eq]

theorem hasEntry_cases (h : x.state.hasEntry = true) : x.state = .dirty ∨ x.state = .committing ∨ x.state = .failed := by
  cases hx : x.state <;> rw [hx] at h
  case free | clean => cases h
  all_goals simp

theorem unwritten_of_committing (h : x.state = .committing) (hn : x.mapsNested) (hf : x.fitsState = true) :
    x.Unwritten 2 := by
  obtain ⟨hb, ht, ha, hr, -⟩ := (fits_committing h).mp hf
  exact ⟨hn, hb, ht, ha, hr⟩

theorem unwritten_of_dirty (h : x.state = .dirty) (hn : x.mapsNested) (hf : x.fitsState = true) : x.Unwritten 2 := by
  obtain ⟨hb, hi, ht, ha, hr, -⟩ := (fits_dirty h).mp hf
  exact ⟨hn, by simpa [hi] using hb, ht, ha, hr⟩

theorem mapsNested_returnInFlight (h : x.mapsNested) : x.returnInFlight.mapsNested := by
  obtain ⟨hd, hi, -⟩ := h
  refine ⟨?_, BitVec.zero_and, BitVec.and_zero⟩
  have both : (x.dirty ||| x.inFlight) &&& ~~~x.valid = x.dirty &&& ~~~x.valid ||| x.inFlight &&& ~~~x.valid := by
    ext i
    simp [Bool.and_or_distrib_right]
  exact both.trans (by rw [hd, hi]; rfl)

/-- The in-flight offsets return to the dirty map: what a commit that ends otherwise than well leaves (R101). -/
theorem Unwritten.returned {n : Nat} (h : x.Unwritten n) : x.returnInFlight.Unwritten n := by
  obtain ⟨hn, hb, ht, ha, hr⟩ := h
  exact ⟨mapsNested_returnInFlight hn, by simpa [returnInFlight] using hb, ht, ha, hr⟩

end PageBuffer

end Sys2Proof.Machine
end

section
/-! PROOFS. Coherence under the Commit Engine (R86, R88, R91, R94, R97, R98, R99, R100, R101, R104) and under the freeing and
allocation of buffers (R38, R39). -/
namespace Sys2Proof.Machine

/-! ### The ends of a commit -/

/-- The record as a commit leaves it that ends otherwise than well (R100, R101). -/
def PageBuffer.ended (x : PageBuffer) (y : BufferState) : PageBuffer :=
  { x.returnInFlight with state := y, stage := none, sent := none }

theorem PageBuffer.Unwritten.ended_dirty {x : PageBuffer} (h : x.Unwritten 2) : (x.ended .dirty).mapsNested ∧
    (x.ended .dirty).fitsState = true :=
  ⟨h.returned.nested, (PageBuffer.fits_dirty rfl).mpr ⟨h.bytes, rfl, h.tag, h.attempts, h.region, rfl⟩⟩

theorem PageBuffer.Unwritten.ended_failed {x : PageBuffer} (h : x.Unwritten 3) : (x.ended .failed).mapsNested ∧
    (x.ended .failed).fitsState = true :=
  ⟨h.returned.nested, (PageBuffer.fits_failed rfl).mpr ⟨h.bytes, rfl, h.tag, h.attempts, h.region, rfl⟩⟩

theorem PageBuffer.Unwritten.mono {x : PageBuffer} {m n : Nat} (h : x.Unwritten m) (hmn : m ≤ n) : x.Unwritten n :=
  ⟨h.nested, h.bytes, h.tag, h.attempts.trans hmn, h.region⟩

namespace State

theorem endDirty_eq (s : State) (b : Fin 16) :
    s.endDirty b = (s.withdrawCommit b).setBuffer b (s.buffers[b].ended .dirty) := by
  have same : (s.withdrawCommit b).buffers = s.buffers := by simp
  rw [endDirty, same]
  rfl

theorem becomeFailed_eq (s : State) (b : Fin 16) :
    s.becomeFailed b = ((s.withdrawCommit b).setBuffer b (s.buffers[b].ended .failed)).raise .commitFail := by
  have same : (s.withdrawCommit b).buffers = s.buffers := by simp
  rw [becomeFailed, same]
  rfl

variable {s : State} {b : Fin 16}

theorem CoherentBut.coherent_setBuffer {x : PageBuffer} (h : (s.setBuffer b x).CoherentBut b) (hn : x.mapsNested)
    (hf : x.fitsState = true) : (s.setBuffer b x).coherent :=
  h.coherent (by rwa [buffers_setBuffer_self]) (by rwa [buffers_setBuffer_self])

theorem CoherentBut.withdrawCommit (hs : s.CoherentBut b) : (s.withdrawCommit b).CoherentBut b :=
  (s.withdrawCommit_samePool b).coherentBut hs

/-- A buffer with an entry leaves its commit, DIRTY or FAILED. -/
theorem CoherentBut.ended (hs : s.CoherentBut b) (he : s.buffers[b].state.hasEntry = true) {y : BufferState}
    (hy : y = .dirty ∨ y = .failed) :
    ((s.withdrawCommit b).setBuffer b (s.buffers[b].ended y)).CoherentBut b := by
  have same : (s.withdrawCommit b).buffers = s.buffers := by simp
  refine hs.withdrawCommit.setEntered ?_ (by rwa [same]) (by rw [same]; rfl) (by rw [same]; rfl) fun h => ?_
  · rcases hy with rfl | rfl <;> rfl
  · rcases hy with rfl | rfl <;> cases h

theorem CoherentBut.endDirty (hs : s.CoherentBut b) (he : s.buffers[b].state.hasEntry = true)
    (hx : s.buffers[b].Unwritten 2) : (s.endDirty b).coherent := by
  rw [endDirty_eq]
  exact (hs.ended he (.inl rfl)).coherent_setBuffer hx.ended_dirty.1 hx.ended_dirty.2

theorem CoherentBut.becomeFailed (hs : s.CoherentBut b) (he : s.buffers[b].state.hasEntry = true)
    (hx : s.buffers[b].Unwritten 3) : (s.becomeFailed b).coherent := by
  rw [becomeFailed_eq]
  exact (raise_samePool _ _).coherent
    ((hs.ended he (.inr rfl)).coherent_setBuffer hx.ended_failed.1 hx.ended_failed.2)

theorem hasEntry_of_committing (h : s.buffers[b].state = .committing) : s.buffers[b].state.hasEntry = true := by
  rw [h]
  rfl

theorem engineWaits_iff : s.engineWaits b = true ↔ s.buffers[b].state = .committing ∧ s.buffers[b].stage = some .fill := by
  simp [engineWaits]

theorem inStage_iff {y : Stage} :
    s.inStage b y = true ↔ s.buffers[b].state = .committing ∧ s.buffers[b].stage = some y := by
  simp [inStage]

/-- What coherence says of the record of a COMMITTING buffer. -/
theorem coherent.unwritten (hs : s.coherent) (hc : s.buffers[b].state = .committing) : s.buffers[b].Unwritten 2 := by
  obtain ⟨-, hx, -⟩ := hs
  exact PageBuffer.unwritten_of_committing hc (hx b).1 (hx b).2

theorem coherent.endDirty (hs : s.coherent) (hc : s.buffers[b].state = .committing) : (s.endDirty b).coherent :=
  (hs.but b).endDirty (hasEntry_of_committing hc) (hs.unwritten hc)

theorem coherent.becomeFailed (hs : s.coherent) (hc : s.buffers[b].state = .committing) : (s.becomeFailed b).coherent :=
  (hs.but b).becomeFailed (hasEntry_of_committing hc) ((hs.unwritten hc).mono (by decide))

/-! ### A fetch cancelled (R43, R104) -/

/-- The fetches pending for a buffer are one at most (R40). -/
theorem CoherentBut.fetchOnLink_of_fetchRequested (hs : s.CoherentBut b) (h : s.fetchRequested b = true) :
    s.fetchOnLink b = false := by
  have pending := hs.places.fetches
  have requested : 0 < s.requests.countP (fun o => decide (o.kind = .pageFetch b)) := by
    rw [List.countP_pos_iff]
    simpa [fetchRequested] using h
  by_contra hl
  rw [fetchesPending, Bool.eq_true_of_not_eq_false hl, if_pos rfl] at pending
  split at pending <;> omega

theorem CoherentBut.cancelFetch (hs : s.CoherentBut b) (h : s.fetchOnLink b = false) : (s.cancelFetch b).CoherentBut b := by
  refine hs.refill (x := { s.buffers[b] with fill := false }) rfl rfl rfl (fun b' hb => ?_) ?_ rfl rfl
  · rw [fetchesPending_cancelFetch, if_neg hb]
  · rw [fetchesPending_cancelFetch, if_pos rfl, h]

/-- The valid map, the data and the fill flag bear on the fit of a record only where it is FREE (R34). -/
theorem fitsState_congr {x y : PageBuffer} (hfree : x.state ≠ .free) (hst : y.state = x.state) (hd : y.dirty = x.dirty)
    (hi : y.inFlight = x.inFlight) (ht : y.tag = x.tag) (ha : y.attempts = x.attempts)
    (hr : y.commitRegion = x.commitRegion) (hage : y.ageDeadline = x.ageDeadline) (hstage : y.stage = x.stage) :
    x.fitsState = true ↔ y.fitsState = true := by
  rw [PageBuffer.fitsState, PageBuffer.fitsState, hst, hd, hi, ht, ha, hr, hage, hstage]
  cases hx : x.state with
  | free => exact absurd hx hfree
  | _ => rfl

/-- A record keeps fitting its state when its fill flag is cleared. -/
theorem fitsState_unpinned {x : PageBuffer} (h : x.fitsState = true) : { x with fill := false }.fitsState = true := by
  by_cases hx : x.state = .free
  · obtain ⟨hv, hd, hi, ht, -, ha, hr, hage, hstage, hsent⟩ := (PageBuffer.fits_free hx).mp h
    exact (PageBuffer.fits_free (x := { x with fill := false }) hx).mpr
      ⟨hv, hd, hi, ht, rfl, ha, hr, hage, hstage, hsent⟩
  · exact (fitsState_congr (y := { x with fill := false }) hx rfl rfl rfl rfl rfl rfl rfl rfl).mp h

theorem coherent.cancelFetch (hs : s.coherent) (h : s.fetchOnLink b = false) : (s.cancelFetch b).coherent := by
  obtain ⟨-, hx, -⟩ := id hs
  obtain ⟨hn, hf⟩ := hx b
  have self : (s.cancelFetch b).buffers[b] = { s.buffers[b] with fill := false } := s.buffers_setBuffer_self b _
  refine ((hs.but b).cancelFetch h).coherent ?_ ?_
  · rw [self]
    exact hn
  · rw [self]
    exact fitsState_unpinned hf

theorem CoherentBut.stopCommit (hs : s.CoherentBut b) (he : s.buffers[b].state.hasEntry = true)
    (hx : s.buffers[b].Unwritten 2) : (s.stopCommit b).coherent := by
  unfold State.stopCommit
  dsimp only
  split
  · rename_i h
    simp only [Bool.and_eq_true] at h
    obtain ⟨⟨-, hr⟩, -⟩ := h
    have self : (s.cancelFetch b).buffers[b] = { s.buffers[b] with fill := false } := s.buffers_setBuffer_self b _
    refine (hs.cancelFetch (hs.fetchOnLink_of_fetchRequested hr)).endDirty (by rwa [self]) ?_
    rw [self]
    exact ⟨hx.nested, hx.bytes, hx.tag, hx.attempts, hx.region⟩
  · exact hs.endDirty he hx

/-! ### The stages of a commit -/

/-- A stage entered. -/
theorem CoherentBut.setStage (hs : s.CoherentBut b) (hc : s.buffers[b].state = .committing) {y : Stage}
    (hx : s.buffers[b].Unwritten 2) (hy : y = .fill → s.buffers[b].inFlight = 0) :
    (s.setBuffer b { s.buffers[b] with stage := some y }).coherent := by
  have he := hasEntry_of_committing hc
  have entered := hs.setEntered (x := { s.buffers[b] with stage := some y }) he he rfl rfl fun _ => hc
  exact entered.coherent_setBuffer hx.nested ((PageBuffer.fits_committing (x := { s.buffers[b] with stage := some y }) hc).mpr
    ⟨hx.bytes, hx.tag, hx.attempts, hx.region, Option.some_ne_none _, fun h => hy (Option.some.inj h)⟩)

/-- A fetch requested for a buffer that is not FREE and has none pending (R40). -/
theorem coherent.requestFetch (hs : s.coherent) (hfill : s.buffers[b].fill = false) (hfree : s.buffers[b].state ≠ .free) :
    (s.requestFetch b).coherent := by
  obtain ⟨-, hx, -⟩ := id hs
  obtain ⟨hn, hf⟩ := hx b
  have self := s.requestFetch_buffers b b
  have nested : ∀ f, { s.buffers[b] with fill := f }.mapsNested := fun _ => hn
  have fits : { s.buffers[b] with fill := true }.fitsState = true :=
    (fitsState_congr (y := { s.buffers[b] with fill := true }) hfree rfl rfl rfl rfl rfl rfl rfl rfl).mp hf
  refine ((hs.but b).requestFetch hfill).coherent ?_ ?_
  · rw [self]
    split
    · exact hn
    · exact hn
  · rw [self]
    split
    · exact fits
    · exact hf

theorem CoherentBut.enterFill (hs : s.CoherentBut b) (hc : s.buffers[b].state = .committing)
    (hx : s.buffers[b].Unwritten 2) (hi : s.buffers[b].inFlight = 0) : (s.enterFill b).coherent := by
  unfold State.enterFill
  dsimp only
  have entered := hs.setStage hc (y := .fill) hx fun _ => hi
  have self := s.buffers_setBuffer_self b { s.buffers[b] with stage := some .fill }
  split
  · exact entered
  · rename_i hf
    refine entered.requestFetch (Bool.eq_false_iff.mpr hf) ?_
    rw [self]
    exact fun h => absurd (hc.symm.trans h) (by decide)

theorem mapsNested_sending {x : PageBuffer} (h : x.mapsNested) (verify : Bool) : (x.sending verify).mapsNested := by
  obtain ⟨hn, -⟩ := PageBuffer.mapsNested_returnInFlight h
  refine ⟨BitVec.zero_and, ?_, BitVec.zero_and⟩
  rw [PageBuffer.sending, BitVec.or_comm]
  exact hn

theorem CoherentBut.startSend (hs : s.CoherentBut b) (hc : s.buffers[b].state = .committing)
    (hx : s.buffers[b].Unwritten 2) : (s.startSend b).coherent := by
  have he := hasEntry_of_committing hc
  unfold State.startSend
  split
  · rename_i ht
    exact absurd ht hx.tag
  · dsimp only
    have bytes : 0 ||| (s.buffers[b].inFlight ||| s.buffers[b].dirty) ≠ 0 := by
      simpa [BitVec.or_comm] using hx.bytes
    have fits : (s.buffers[b].sending (s.verifyOf b)).fitsState = true :=
      (PageBuffer.fits_committing (x := s.buffers[b].sending (s.verifyOf b)) hc).mpr
        ⟨bytes, hx.tag, hx.attempts, hx.region, Option.some_ne_none _, fun h => by cases h⟩
    have sent := (hs.setEntered (x := s.buffers[b].sending (s.verifyOf b)) he he rfl rfl fun _ => hc).coherent_setBuffer
      (mapsNested_sending hx.nested _) fits
    refine SamePool.coherent (request_samePool _ (fun _ h => by cases h)) ?_
    exact SamePool.coherent (.of_frame ⟨rfl, rfl, rfl, rfl, rfl⟩) sent

end State

end Sys2Proof.Machine
end

section
/-! PROOFS. Coherence under the start of a commit, its failures and retries, its good end (R86, R90, R94, R98, R99, R103), and
under the freeing and allocation of buffers (R38, R39). -/
namespace Sys2Proof.Machine

/-- The record of a commit whose attempt has failed (R90, R94, R98). -/
def PageBuffer.counted (x : PageBuffer) : PageBuffer := { x.returnInFlight with attempts := x.attempts + 1 }

namespace State

variable {s : State} {b : Fin 16}

/-! ### Starts and failures -/

theorem CoherentBut.enterSend (hs : s.CoherentBut b) (hc : s.buffers[b].state = .committing)
    (hx : s.buffers[b].Unwritten 2) : (s.enterSend b).coherent := by
  unfold State.enterSend
  split
  · split
    · exact hs.stopCommit (hasEntry_of_committing hc) hx
    · have spent := (SamePool.of_frame (s := s)
        (t := { s with supply := { s.supply with count := s.supply.count - 1 } }) ⟨rfl, rfl, rfl, rfl, rfl⟩).coherentBut hs
      exact spent.startSend hc hx
  · exact hs.startSend hc hx

theorem CoherentBut.startChoice (hs : s.CoherentBut b) (hc : s.buffers[b].state = .committing)
    (hx : s.buffers[b].Unwritten 2) (hi : s.buffers[b].inFlight = 0) : (s.startChoice b).coherent := by
  unfold State.startChoice
  split
  · exact hs.enterSend hc hx
  · exact hs.enterFill hc hx hi

/-- A commit starts on an entry that meets the conditions (R71, R86). -/
theorem coherent.startCommit (hs : s.coherent) {y : DeviceState} (h : s.startable y b = true) :
    (s.startCommit b).coherent := by
  obtain ⟨d, hd, -, hdirty, hfront, -, halone, -⟩ := startable_iff.mp h
  obtain ⟨-, hx, -⟩ := id hs
  obtain ⟨hn, hf⟩ := hx b
  have unwritten := PageBuffer.unwritten_of_dirty hdirty hn hf
  obtain ⟨-, hi, -⟩ := (PageBuffer.fits_dirty hdirty).mp hf
  have entered := (hs.but b).setBuffer (x := { s.buffers[b] with state := .committing }) (by rw [hdirty]; rfl)
    (by rw [hdirty]; exact ⟨nofun, nofun⟩) rfl rfl fun _ => ⟨hfront, fun b' _ hc heq => ?_⟩
  · have self := s.buffers_setBuffer_self b { s.buffers[b] with state := .committing }
    refine entered.startChoice (by rw [self]) ?_ (by rw [self]; exact hi)
    rw [self]
    exact ⟨unwritten.nested, unwritten.bytes, unwritten.tag, unwritten.attempts, unwritten.region⟩
  · rw [hd] at heq
    have others := List.any_eq_false.mp halone b' (List.mem_finRange b')
    rw [Bool.and_eq_true, decide_eq_true_eq, decide_eq_true_eq] at others
    exact others ⟨hc, heq⟩

theorem coherent.handOver (hs : s.coherent) {y : DeviceState} (h : s.startable y b = true) : (s.handOver b).coherent := by
  obtain ⟨d, -, -, hdirty, -⟩ := startable_iff.mp h
  obtain ⟨-, hx, -⟩ := id hs
  exact (hs.but b).becomeFailed (by rw [hdirty]; rfl)
    ((PageBuffer.unwritten_of_dirty hdirty (hx b).1 (hx b).2).mono (by decide))

/-- A failure counted (R103), and what it leads to, but for the retry. -/
theorem CoherentBut.afterFailure (hs : s.CoherentBut b) (hc : s.buffers[b].state = .committing)
    (hx : s.buffers[b].Unwritten 2) {retry : State → State}
    (h : ∀ t : State, t.CoherentBut b → t.buffers[b] = s.buffers[b].counted → t.buffers[b].Unwritten 2 →
      (retry t).coherent) : (s.afterFailure b retry).coherent := by
  have he := hasEntry_of_committing hc
  have tried : (s.setBuffer b s.buffers[b].counted).CoherentBut b := hs.setEntered he he rfl rfl fun _ => hc
  have self := s.buffers_setBuffer_self b s.buffers[b].counted
  have unwritten (n : Nat) (hn : s.buffers[b].attempts + 1 ≤ n) : s.buffers[b].counted.Unwritten n :=
    ⟨hx.returned.nested, hx.returned.bytes, hx.tag, hn, hx.region⟩
  change State.coherent (if s.buffers[b].attempts + 1 ≥ Config.programAttempts then
    (s.setBuffer b s.buffers[b].counted).becomeFailed b else
    match (s.setBuffer b s.buffers[b].counted).deviceOfBuffer b with
    | none => s.setBuffer b s.buffers[b].counted
    | some d => if (s.setBuffer b s.buffers[b].counted).unreachable d then
        (s.setBuffer b s.buffers[b].counted).endDirty b
      else retry (s.setBuffer b s.buffers[b].counted))
  have hattempts := hx.attempts
  have entered : (s.setBuffer b s.buffers[b].counted).buffers[b].state.hasEntry = true := by rwa [self]
  split
  · exact tried.becomeFailed entered (by rw [self]; exact unwritten 3 (by omega))
  · rename_i hlast
    have hlast : ¬ 3 ≤ s.buffers[b].attempts + 1 := hlast
    have left : (s.setBuffer b s.buffers[b].counted).buffers[b].Unwritten 2 := by
      rw [self]
      exact unwritten 2 (by omega)
    split
    · rename_i hd
      rw [deviceOfBuffer, Option.map_eq_none_iff, self] at hd
      exact absurd hd hx.tag
    · split
      · exact tried.endDirty entered left
      · exact h _ tried self left

theorem coherent.fillFailed (hs : s.coherent) (hw : s.engineWaits b = true) (hf : s.buffers[b].fill = false) :
    (s.fillFailed b).coherent := by
  obtain ⟨hc, hstage⟩ := engineWaits_iff.mp hw
  refine (hs.but b).afterFailure hc (hs.unwritten hc) fun t ht htb hx => ?_
  have committing : t.buffers[b].state = .committing := by rwa [htb]
  have whole : t.coherent := ht.coherent hx.nested ((PageBuffer.fits_committing committing).mpr
    ⟨hx.bytes, hx.tag, hx.attempts, hx.region, by rw [htb]; exact fun h => Option.some_ne_none _ (hstage.symm.trans h),
      fun _ => by rw [htb]; rfl⟩)
  exact whole.requestFetch (by rwa [htb]) fun h => by rw [committing] at h; cases h

/-- The start choice as the retry of a failed attempt (R94, R98). -/
theorem CoherentBut.retryStart (hs : s.CoherentBut b) (hc : s.buffers[b].state = .committing)
    (hx : s.buffers[b].Unwritten 2) : (s.afterFailure b fun s => s.startChoice b).coherent :=
  hs.afterFailure hc hx fun t ht htb hx => ht.startChoice (by rwa [htb]) hx (by rw [htb]; rfl)

theorem coherent.checkFailed (hs : s.coherent) (hc : s.buffers[b].state = .committing) : (s.checkFailed b).coherent :=
  (hs.but b).retryStart hc (hs.unwritten hc)

theorem coherent.sendFailed (hs : s.coherent) (hc : s.buffers[b].state = .committing) : (s.sendFailed b).coherent := by
  have same : (s.withdrawCommit b).buffers = s.buffers := by simp
  exact ((s.withdrawCommit_samePool b).coherent hs |>.checkFailed) (by rwa [same])

theorem coherent.enterCheck (hs : s.coherent) (hc : s.buffers[b].state = .committing) : (s.enterCheck b).coherent := by
  unfold State.enterCheck
  split
  · exact (request_samePool _ (fun _ h => by cases h)).coherent
      ((hs.but b).setStage hc (hs.unwritten hc) fun h => by cases h)
  · exact hs

theorem coherent.enterBusy (hs : s.coherent) (hc : s.buffers[b].state = .committing) (d : Fin 4) :
    (s.enterBusy b d).coherent :=
  ((setDevice_samePool _ d _).trans (releaseSpan_samePool _ d)).coherent
    ((hs.but b).setStage hc (hs.unwritten hc) fun h => by cases h)

end State
end Sys2Proof.Machine
end

section
/-! PROOFS. Coherence under the good end of a commit (R99), under the freeing and allocation of buffers (R38, R39), and under
the placing of a write byte (R49, R62). -/
namespace Sys2Proof.Machine

/-- `q'` is `q` without the entry of `b`. -/
structure Queue.Drops (b : Fin 16) (q q' : List QueueEntry) : Prop where
  canonical : Queue.canonical q'
  gone : q'.countP (·.isFor b) = 0
  count : ∀ b', b' ≠ b → q'.countP (·.isFor b') = q.countP (·.isFor b')
  front : ∀ b', b' ≠ b → Queue.markerBefore q b' = false → Queue.markerBefore q' b' = false

theorem Queue.drops_normalise {q : List QueueEntry} (h : Queue.canonical q) (b : Fin 16) :
    Queue.Drops b q (Queue.normalise (Queue.without q b)) := by
  obtain ⟨hq, hcount, hfront⟩ := Queue.normalise_without h b
  refine ⟨hq, ?_, fun b' hb => ?_, hfront⟩
  · rw [hcount, if_pos rfl]
  · rw [hcount, if_neg hb]

theorem Queue.hasEntry_eq_false {q : List QueueEntry} {b : Fin 16} :
    Queue.hasEntry q b = false ↔ q.countP (·.isFor b) = 0 := by
  rw [Queue.hasEntry, List.any_eq_false, List.countP_eq_zero]

theorem Queue.drops_refl {q : List QueueEntry} {b : Fin 16} (h : Queue.canonical q)
    (hb : Queue.hasEntry q b = false) : Queue.Drops b q q :=
  ⟨h, Queue.hasEntry_eq_false.mp hb, fun _ _ => rfl, fun _ _ h => h⟩

/-- The record of a buffer whose commit has written all it had (R63, R99). -/
def PageBuffer.cleaned (x : PageBuffer) : PageBuffer :=
  { x with state := .clean, inFlight := 0, stage := none, sent := none, commitRegion := none, ageDeadline := none }

namespace State

variable {s : State} {b : Fin 16}

/-- A buffer that loses its entry, and stays in the recency list just where it does not become FREE. -/
theorem CoherentBut.dropped {t : State} (hs : s.CoherentBut b) (hb : s.SameBuffersBut b t)
    (hq : Queue.Drops b s.queue t.queue) (he : t.buffers[b].state.hasEntry = false) (hn : t.recency.Nodup)
    (hr : ∀ b', b' ≠ b → (b' ∈ t.recency ↔ b' ∈ s.recency)) (hin : b ∈ t.recency ↔ t.buffers[b].state ≠ .free)
    (ho : ∀ b', b' ≠ b → t.fetchesPending b' = s.fetchesPending b')
    (hf : t.fetchesPending b = if t.buffers[b].fill then 1 else 0)
    (ht : t.buffers[b].tag ≠ none → ∀ b' : Fin 16, b' ≠ b → s.buffers[b'].tag ≠ t.buffers[b].tag) :
    t.CoherentBut b := by
  have idle : t.buffers[b].state ≠ .committing := fun h => by
    rw [h] at he
    cases he
  refine hs.change ⟨hb, hq.count, fun b' hne _ => hq.front b' hne, hr, ho⟩ hq.canonical hn
    ⟨?_, hin, hf, fun hne b' hb' => ?_, fun h => absurd h idle, fun h => absurd h idle⟩
  · rw [hq.gone, he]
    rfl
  · rw [hb b' hb']
    exact ht hne b' hb'

theorem removeEntry_queue (s : State) (b : Fin 16) :
    (s.removeEntry b).queue = Queue.normalise (Queue.without s.queue b) := by
  unfold removeEntry
  dsimp only
  split <;> rfl

theorem removeEntry_buffer (s : State) (b : Fin 16) :
    (s.removeEntry b).buffers[b] = { s.buffers[b] with commitRegion := none, ageDeadline := none } := by
  unfold removeEntry
  dsimp only
  split <;> exact s.buffers_setBuffer_self b _

/-! ### A commit ends well (R99) -/

theorem coherent.endWell (hs : s.coherent) (hc : s.buffers[b].state = .committing) : (s.endWell b).coherent := by
  have same : (s.withdrawCommit b).buffers = s.buffers := by simp
  have hx := hs.unwritten hc
  have hu := (hs.but b).withdrawCommit
  have he := hasEntry_of_committing hc
  unfold State.endWell
  dsimp only
  generalize s.withdrawCommit b = u at same hu
  rw [same]
  obtain ⟨hd, hi, hdi⟩ := hx.nested
  split
  · rename_i hclean
    generalize hv : u.setBuffer b { s.buffers[b] with state := .clean, inFlight := 0, stage := none, sent := none } = v
    have others : u.SameBuffersBut b (v.removeEntry b) :=
      (hv ▸ u.setBuffer_sameBuffersBut b _ : u.SameBuffersBut b v).trans (v.removeEntry_sameBuffersBut b)
    have self : (v.removeEntry b).buffers[b] = s.buffers[b].cleaned := by
      rw [removeEntry_buffer, ← hv, buffers_setBuffer_self]
      rfl
    have kept : v.queue = u.queue ∧ v.recency = u.recency ∧ v.requests = u.requests ∧ v.link = u.link := by
      rw [← hv]
      exact ⟨rfl, rfl, rfl, rfl⟩
    obtain ⟨hq, hr, hreq, hl⟩ := kept
    have recency : (v.removeEntry b).recency = u.recency := by simp [hr]
    have fetches (b' : Fin 16) : (v.removeEntry b).fetchesPending b' = u.fetchesPending b' :=
      fetchesPending_congr (by simp [hreq]) (by simp [hl]) b'
    have p := hu.places
    have but : (v.removeEntry b).CoherentBut b := by
      refine hu.dropped others ?_ (by rw [self]; rfl) ?_ (fun b' _ => by rw [recency]) ?_ (fun b' _ => fetches b') ?_ ?_
      · rw [removeEntry_queue, hq]
        exact Queue.drops_normalise hu.queue b
      · rw [recency]
        exact hu.recency.1
      · rw [recency, p.recency, self, same, hc]
        exact iff_of_true nofun nofun
      · rw [fetches, p.fetches, self, same]
        rfl
      · rw [self]
        have unique := p.tag
        rw [same] at unique ⊢
        exact unique
    refine but.coherent ?_ ?_
    · rw [self]
      exact ⟨hd, BitVec.zero_and, BitVec.and_zero⟩
    · rw [self]
      exact (PageBuffer.fits_clean (x := s.buffers[b].cleaned) rfl).mpr
        ⟨hclean, rfl, hx.tag, hx.attempts, rfl, rfl, rfl⟩
  · rename_i hdirty
    have left := hu.setEntered (x := { s.buffers[b] with state := .dirty, inFlight := 0, stage := none, sent := none })
      rfl (by rwa [same]) (by rw [same]) (by rw [same]) nofun
    exact left.coherent_setBuffer ⟨hd, BitVec.zero_and, BitVec.and_zero⟩ ((PageBuffer.fits_dirty
      (x := { s.buffers[b] with state := .dirty, inFlight := 0, stage := none, sent := none }) rfl).mpr
        ⟨hdirty, rfl, hx.tag, hx.attempts, hx.region, rfl⟩)

/-! ### A buffer is freed (R38) -/

theorem fetchOnLink_orphanFetch (s : State) (b b' : Fin 16) :
    (s.orphanFetch b).fetchOnLink b' = (decide (b' ≠ b) && s.fetchOnLink b') := by
  unfold orphanFetch
  split
  · rename_i hl
    rw [fetchOnLink, hl, Bool.and_false]
  · rename_i l hl
    split
    · rename_i hk
      rw [fetchOnLink, fetchOnLink, hl]
      simp only [hk, Bool.and_false, OperationKind.pageFetch.injEq]
      by_cases hb : b' = b
      · simp [hb]
      · simp [Ne.symm hb]
    · rename_i hk
      by_cases hb : b' = b
      · subst hb
        simp [fetchOnLink, hl, hk]
      · simp [hb]

theorem fetchesPending_freeBuffer (s : State) (b b' : Fin 16) :
    (s.freeBuffer b).fetchesPending b' = if b' = b then 0 else s.fetchesPending b' := by
  unfold freeBuffer
  dsimp only
  generalize hu : (if Queue.hasEntry s.queue b then s.removeEntry b else s) = u
  have kept : u.requests = s.requests ∧ u.link = s.link := by
    rw [← hu]
    split <;> simp
  obtain ⟨hr, hl⟩ := kept
  change ((u.cancelFetch b).orphanFetch b).fetchesPending b' = _
  have cancelled := u.fetchesPending_cancelFetch b b'
  have before := fetchesPending_congr hr hl b'
  rw [fetchesPending] at cancelled ⊢
  have same : ((u.cancelFetch b).orphanFetch b).requests = (u.cancelFetch b).requests := by simp
  rw [same, fetchOnLink_orphanFetch]
  by_cases hb : b' = b
  · subst hb
    rw [if_pos rfl] at cancelled
    have link : (u.cancelFetch b').fetchOnLink b' = u.fetchOnLink b' := rfl
    rw [link] at cancelled
    rw [Nat.add_eq_right.mp cancelled]
    simp
  · rw [if_neg hb] at cancelled ⊢
    simpa [hb, before] using cancelled

theorem freeBuffer_queue (s : State) (b : Fin 16) : (s.freeBuffer b).queue =
    if Queue.hasEntry s.queue b then Queue.normalise (Queue.without s.queue b) else s.queue := by
  unfold freeBuffer
  dsimp only
  split
  · rw [← removeEntry_queue]
    simp
  · simp

/-- Freeing a buffer brings its record in order, whatever it was. -/
theorem CoherentBut.freeBuffer (hs : s.CoherentBut b) : (s.freeBuffer b).coherent := by
  have self : (s.freeBuffer b).buffers[b] = PageBuffer.freed := by rw [freeBuffer_buffers, if_pos rfl]
  obtain ⟨hn, -⟩ := hs.recency
  have but : (s.freeBuffer b).CoherentBut b := by
    refine hs.dropped (s.freeBuffer_sameBuffersBut b) ?_ (by rw [self]; rfl) ?_ (fun b' hb => ?_) ?_ (fun b' hb => ?_) ?_
      ?_
    · rw [freeBuffer_queue]
      split
      · exact Queue.drops_normalise hs.queue b
      · rename_i he
        exact Queue.drops_refl hs.queue (Bool.eq_false_iff.mpr he)
    · rw [freeBuffer_recency]
      exact hn.erase b
    · rw [freeBuffer_recency, List.mem_erase_of_ne hb]
    · rw [freeBuffer_recency, self]
      exact iff_of_false hn.not_mem_erase fun h => h rfl
    · rw [fetchesPending_freeBuffer, if_neg hb]
    · rw [fetchesPending_freeBuffer, if_pos rfl, self]
      rfl
    · rw [self]
      exact fun h => absurd rfl h
  exact but.coherent (by rw [self]; decide) (by rw [self]; rfl)

theorem coherent.freeBuffer (hs : s.coherent) (b : Fin 16) : (s.freeBuffer b).coherent := (hs.but b).freeBuffer

theorem coherent.freeIfUnknown (hs : s.coherent) (b : Fin 16) : (s.freeIfUnknown b).coherent := by
  unfold State.freeIfUnknown
  split
  · exact hs.freeBuffer b
  · exact hs

end State
end Sys2Proof.Machine
end

section
/-! PROOFS. Coherence under the resolution of reads and writes (R39, R44, R46, R49, R52, R62, R75, R78), under the hand-off of an
access (R6) and under its end (R43). -/
namespace Sys2Proof.Machine

/-- No buffer is resident for a page that is not found (R36). -/
theorem State.findBuffer_eq_none {s : State} {d : Fin 4} {page : Nat} (h : s.findBuffer d page = none) (b : Fin 16) :
    s.buffers[b].state ≠ .free → s.buffers[b].tag ≠ some ⟨d, page⟩ := by
  have hb := List.find?_eq_none.mp h b (List.mem_finRange b)
  simpa using hb

/-- The maps of a record, offset by offset (R35). -/
theorem PageBuffer.mapsNested_iff {x : PageBuffer} : x.mapsNested ↔ ∀ i < 64,
    (x.dirty.getLsbD i = true → x.valid.getLsbD i = true ∧ x.inFlight.getLsbD i = false) ∧
      (x.inFlight.getLsbD i = true → x.valid.getLsbD i = true) := by
  have empty (m : OffsetMap) : m = 0 ↔ ∀ i < 64, m.getLsbD i = false :=
    ⟨fun h i _ => by rw [h]; exact BitVec.getLsbD_zero, fun h => BitVec.eq_of_getLsbD_eq fun i hi => by
      rw [h i hi]; exact BitVec.getLsbD_zero.symm⟩
  rw [PageBuffer.mapsNested, empty, empty, empty]
  simp only [BitVec.getLsbD_and, BitVec.getLsbD_not]
  grind

/-- A record that takes a host byte keeps its maps nested (R35, R49). -/
theorem PageBuffer.mapsNested_write {x : PageBuffer} (h : x.mapsNested) (o : Fin 64) (v : Byte) :
    (x.write o v).mapsNested := by
  rw [PageBuffer.mapsNested_iff] at h ⊢
  intro i hi
  have := h i hi
  simp only [PageBuffer.write, BitVec.getLsbD_and, BitVec.getLsbD_or, BitVec.getLsbD_not]
  grind

/-- A map with one offset more is not empty. -/
theorem or_offsetBit_ne_zero (m : OffsetMap) (o : Fin 64) : m ||| offsetBit o.val ≠ 0 := by
  intro h
  have := congrArg (fun m : OffsetMap => m.getLsbD o.val) h
  simp [offsetBit] at this

/-- The record of a buffer that has been allocated for a page, with nothing known (R39, R46). -/
abbrev PageBuffer.standingFor (g : Tag) : PageBuffer := { PageBuffer.freed with state := .clean, tag := some g }

theorem PageBuffer.standingFor_fits (g : Tag) : (PageBuffer.standingFor g).mapsNested ∧
    (PageBuffer.standingFor g).fitsState = true :=
  ⟨⟨BitVec.zero_and, BitVec.zero_and, BitVec.zero_and⟩, (PageBuffer.fits_clean (x := .standingFor g) rfl).mpr
    ⟨rfl, rfl, Option.some_ne_none g, Nat.zero_le 2, rfl, rfl, rfl⟩⟩

namespace State

variable {s : State} {b : Fin 16}

/-- A buffer that is not FREE moves to the front of the recency list (R37). -/
theorem CoherentBut.touch (hs : s.CoherentBut b) {c : Fin 16} (hc : s.buffers[c].state ≠ .free) :
    (s.touch c).CoherentBut b := by
  obtain ⟨hq, hx, hp, ht, ⟨hn, hr⟩, hf, hk⟩ := hs
  refine ⟨hq, hx, hp, ht, ⟨List.nodup_cons.mpr ⟨hn.not_mem_erase, hn.erase c⟩, fun b' => ?_⟩, hf, hk⟩
  change b' ∈ c :: s.recency.erase c ↔ s.buffers[b'].state ≠ .free
  by_cases hb : b' = c
  · subst hb
    exact iff_of_true List.mem_cons_self hc
  · rw [List.mem_cons, List.mem_erase_of_ne hb, hr b']
    exact or_iff_right hb

theorem coherent.touch (hs : s.coherent) (hb : s.buffers[b].state ≠ .free) : (s.touch b).coherent := by
  obtain ⟨-, hx, -⟩ := id hs
  exact ((hs.but b).touch hb).coherent (hx b).1 (hx b).2

/-- A FREE buffer comes to stand for a page that no other stands for (R36, R39). -/
theorem coherent.allocateFree (hs : s.coherent) (hb : s.buffers[b].state = .free) {g : Tag}
    (hg : ∀ b' : Fin 16, b' ≠ b → s.buffers[b'].tag ≠ some g) :
    ((s.setBuffer b (.standingFor g)).touch b).coherent := by
  obtain ⟨-, hx, -⟩ := id hs
  obtain ⟨-, -, -, -, hfill, -⟩ := (PageBuffer.fits_free hb).mp (hx b).2
  have p := (hs.but b).places
  have hn := (hs.but b).recency.1
  have self : ((s.setBuffer b (.standingFor g)).touch b).buffers[b] = .standingFor g := s.buffers_setBuffer_self b _
  have others : s.SameBuffersBut b ((s.setBuffer b (.standingFor g)).touch b) := s.setBuffer_sameBuffersBut b _
  have recency : ((s.setBuffer b (.standingFor g)).touch b).recency = b :: s.recency.erase b := rfl
  have none : Queue.hasEntry s.queue b = false := Queue.hasEntry_eq_false.mpr (by rw [p.count, hb]; rfl)
  generalize hu : (s.setBuffer b (.standingFor g)).touch b = u at *
  have queue : u.queue = s.queue := by rw [← hu]; rfl
  have fetches := fetchesPending_congr (s := s) (t := u) (by rw [← hu]; rfl) (by rw [← hu]; rfl)
  have but : u.CoherentBut b := by
    refine (hs.but b).dropped others ?_ (by rw [self]; rfl) ?_ (fun b' hne => ?_) ?_ (fun b' _ => fetches b') ?_ ?_
    · rw [queue]
      exact Queue.drops_refl (hs.but b).queue none
    · rw [recency]
      exact List.nodup_cons.mpr ⟨hn.not_mem_erase, hn.erase b⟩
    · rw [recency, List.mem_cons, List.mem_erase_of_ne hne]
      exact or_iff_right hne
    · rw [recency, self]
      exact iff_of_true List.mem_cons_self nofun
    · rw [self]
      exact (fetches b).trans (p.fetches.trans (by rw [hfill]; rfl))
    · rw [self]
      exact fun _ => hg
  obtain ⟨nested, fits⟩ := PageBuffer.standingFor_fits g
  exact but.coherent (by rwa [self]) (by rwa [self])

/-- An allocation for a page that is not resident (R39). -/
theorem coherent.allocate (hs : s.coherent) (b : Fin 16) {d : Fin 4} {page : Nat} (h : s.findBuffer d page = none) :
    (s.allocate b ⟨d, page⟩).coherent := by
  have unique (b' : Fin 16) : s.buffers[b'].tag ≠ some ⟨d, page⟩ := by
    by_cases hfree : s.buffers[b'].state = .free
    · obtain ⟨-, hx, -⟩ := hs
      obtain ⟨-, -, -, ht, -⟩ := (PageBuffer.fits_free hfree).mp (hx b').2
      rw [ht]
      exact nofun
    · exact findBuffer_eq_none h b' hfree
  unfold State.allocate
  dsimp only
  split
  · rename_i hb
    exact hs.allocateFree hb fun b' _ => unique b'
  · refine (hs.freeBuffer b).allocateFree ?_ fun b' hb => ?_
    · rw [freeBuffer_buffers, if_pos rfl]
      rfl
    · rw [freeBuffer_buffers, if_neg hb]
      exact unique b'

/-! ### A write byte placed (R49, R62) -/

/-- The record of a buffer with an entry that takes a host byte. -/
theorem coherent.writeEntered (hs : s.coherent) (he : s.buffers[b].state.hasEntry = true) (o : Fin 64) (v : Byte) :
    (s.setBuffer b (s.buffers[b].write o v)).coherent := by
  obtain ⟨-, hx, -⟩ := id hs
  obtain ⟨hn, hf⟩ := hx b
  have written := (hs.but b).setEntered (x := s.buffers[b].write o v) he he rfl rfl id
  refine written.coherent_setBuffer (PageBuffer.mapsNested_write hn o v) ?_
  have hdirty : (s.buffers[b].write o v).dirty ≠ 0 := or_offsetBit_ne_zero _ o
  have hclear (h : s.buffers[b].inFlight = 0) : (s.buffers[b].write o v).inFlight = 0 := by
    rw [PageBuffer.write, h]
    exact BitVec.zero_and
  rcases PageBuffer.hasEntry_cases he with h | h | h
  · obtain ⟨-, hi, ht, ha, hr, hstage⟩ := (PageBuffer.fits_dirty h).mp hf
    exact (PageBuffer.fits_dirty (x := s.buffers[b].write o v) h).mpr ⟨hdirty, hclear hi, ht, ha, hr, hstage⟩
  · obtain ⟨-, ht, ha, hr, hstage, hi⟩ := (PageBuffer.fits_committing h).mp hf
    refine (PageBuffer.fits_committing (x := s.buffers[b].write o v) h).mpr
      ⟨fun hz => hdirty (BitVec.or_eq_zero_iff.mp hz).1, ht, ha, hr, hstage, fun h => hclear (hi h)⟩
  · obtain ⟨-, hi, ht, ha, hr, hstage⟩ := (PageBuffer.fits_failed h).mp hf
    exact (PageBuffer.fits_failed (x := s.buffers[b].write o v) h).mpr ⟨hdirty, hclear hi, ht, ha, hr, hstage⟩

end State
end Sys2Proof.Machine
end

section
/-! PROOFS. Coherence under the resolution of reads and writes (R44, R46, R49, R52, R62, R75, R78), under the hand-off of an
access (R6) and under its end (R43). -/
namespace Sys2Proof.Machine

/-- The record of a CLEAN buffer that takes a write byte (R62). -/
def PageBuffer.dirtied (x : PageBuffer) (o : Fin 64) (v : Byte) (region : Fin 8) (age : Option Time) : PageBuffer :=
  { x.write o v with state := .dirty, commitRegion := some region, attempts := 0, ageDeadline := age }

namespace State

variable {s : State} {b : Fin 16}

/-- The first write to a CLEAN buffer makes it DIRTY, with its entry at the tail (R62). -/
theorem coherent.writeClean (hs : s.coherent) (hb : s.buffers[b].state = .clean) (o : Fin 64) (v : Byte) (region : Fin 8)
    (age : Option Time) : State.coherent { (s.setBuffer b (s.buffers[b].dirtied o v region age)).touch b with
      queue := Queue.append s.queue b } := by
  obtain ⟨-, hx, -⟩ := id hs
  obtain ⟨nested, fits⟩ := hx b
  obtain ⟨-, hi, ht, -, -, -, hstage⟩ := (PageBuffer.fits_clean hb).mp fits
  have p := (hs.but b).places
  have hn := (hs.but b).recency.1
  have hq := (hs.but b).queue
  have none : s.queue.countP (·.isFor b) = 0 := by rw [p.count, hb]; rfl
  generalize hu : ({ (s.setBuffer b (s.buffers[b].dirtied o v region age)).touch b with
    queue := Queue.append s.queue b } : State) = u
  have self : u.buffers[b] = s.buffers[b].dirtied o v region age := hu ▸ s.buffers_setBuffer_self b _
  have others : s.SameBuffersBut b u := hu ▸ s.setBuffer_sameBuffersBut b _
  have recency : u.recency = b :: s.recency.erase b := hu ▸ rfl
  have queue : u.queue = Queue.append s.queue b := hu ▸ rfl
  have fetches := fetchesPending_congr (s := s) (t := u) (by rw [← hu]; rfl) (by rw [← hu]; rfl)
  have but : u.CoherentBut b := by
    refine (hs.but b).change ⟨others, fun b' hne => ?_, fun b' _ h1 hf => ?_, fun b' hne => ?_, fun b' _ => fetches b'⟩
      ?_ ?_ ⟨?_, ?_, ?_, fun hne b' hb' => ?_, ?_, ?_⟩
    · rw [queue, Queue.countP_isFor_append, if_neg hne, Nat.add_zero]
    · rw [queue, Queue.append, Queue.markerBefore_concat h1]
      exact hf
    · rw [recency, List.mem_cons, List.mem_erase_of_ne hne]
      exact or_iff_right hne
    · rw [queue]
      exact Queue.append_canonical hq none
    · rw [recency]
      exact List.nodup_cons.mpr ⟨hn.not_mem_erase, hn.erase b⟩
    · rw [queue, Queue.countP_isFor_append, none, self, if_pos rfl]
      rfl
    · rw [recency, self]
      exact iff_of_true List.mem_cons_self nofun
    · rw [fetches, self]
      exact p.fetches
    · rw [self, others b' hb']
      exact p.tag ht b' hb'
    · rw [self]
      exact nofun
    · rw [self]
      exact nofun
  refine but.coherent ?_ ?_
  · rw [self]
    exact PageBuffer.mapsNested_write nested o v
  · rw [self]
    refine (PageBuffer.fits_dirty (x := s.buffers[b].dirtied o v region age) rfl).mpr
      ⟨or_offsetBit_ne_zero _ o, ?_, ht, Nat.zero_le 2, Option.some_ne_none _, hstage⟩
    rw [PageBuffer.dirtied, PageBuffer.write, hi]
    exact BitVec.zero_and

theorem coherent.placeByte (hs : s.coherent) (hb : s.buffers[b].state ≠ .free) (d : Decode) (v : Byte) :
    (s.placeByte b d v).coherent := by
  unfold State.placeByte
  dsimp only
  split
  · rename_i hclean
    exact hs.writeClean hclean _ v d.region (s.ageDeadlineFor d.region)
  · rename_i hclean
    have he : s.buffers[b].state.hasEntry = true := by
      cases hst : s.buffers[b].state
      case free => exact absurd hst hb
      case clean => exact absurd hst hclean
      all_goals rfl
    refine (hs.writeEntered he _ v).touch ?_
    rw [buffers_setBuffer_self]
    exact hb

theorem finishWrite_samePool (s : State) (b : Fin 16) (a : HostAddress) (d : Decode) (v : Byte) :
    s.SamePool (s.finishWrite b a d v) := by
  unfold State.finishWrite
  dsimp only
  have applied := (s.completeWatches_samePool a v b).trans (streamWritten_samePool _ d.device d.address)
  split
  · exact (applied.trans (givePush_samePool _ b)).trans (waitOn_samePool _ _)
  · exact applied.trans (complete_samePool _ 0)

theorem waitForBuffer_samePool (s : State) : s.SamePool s.waitForBuffer := .of_frame (by simp)

/-! ### Resolution -/

theorem coherent.readResident (hs : s.coherent) (hb : s.buffers[b].state ≠ .free) (d : Decode) :
    (s.readResident b d).coherent := by
  unfold State.readResident
  split
  · exact (complete_samePool _ _).coherent (hs.touch hb)
  · split
    · exact (refuse_samePool _ _).coherent hs
    · refine (waitOn_samePool _ _).coherent ?_
      split
      · exact hs
      · rename_i hf
        exact hs.requestFetch (Bool.eq_false_iff.mpr hf) hb

theorem coherent.readAbsent (hs : s.coherent) {d : Decode} (h : s.findBuffer d.device (d.address / 64) = none) :
    (s.readAbsent d).coherent := by
  unfold State.readAbsent
  split
  · exact (refuse_samePool _ _).coherent hs
  · split
    · exact s.waitForBuffer_samePool.coherent hs
    · rename_i b _
      have self := s.allocate_buffers b b ⟨d.device, d.address / 64⟩
      rw [if_pos rfl] at self
      exact (waitOn_samePool _ _).coherent ((hs.allocate b h).requestFetch (by rw [self]; rfl) (by rw [self]; exact nofun))

theorem coherent.resolveRead (hs : s.coherent) (d : Decode) : (s.resolveRead d).coherent := by
  unfold State.resolveRead
  split
  · rename_i b hb
    exact hs.readResident (findBuffer_eq_some hb).1 d
  · rename_i hb
    exact hs.readAbsent hb

theorem coherent.resolveWrite (hs : s.coherent) (a : HostAddress) (d : Decode) (v : Byte) :
    (s.resolveWrite a d v).coherent := by
  unfold State.resolveWrite
  split
  · rename_i b hb
    exact (finishWrite_samePool _ b a d v).coherent (hs.placeByte (findBuffer_eq_some hb).1 d v)
  · rename_i hnone
    split
    · exact s.waitForBuffer_samePool.coherent hs
    · rename_i b _
      have self := s.allocate_buffers b b ⟨d.device, d.address / 64⟩
      rw [if_pos rfl] at self
      exact (finishWrite_samePool _ b a d v).coherent
        ((hs.allocate b hnone).placeByte (by rw [self]; exact nofun) d v)

theorem coherent.writePath (hs : s.coherent) (a : HostAddress) (d : Decode) (v : Byte) : (s.writePath a d v).coherent := by
  have evaluated := (s.evaluateWatches_samePool a v).coherent hs
  unfold State.writePath State.checkedWrite
  split
  · exact evaluated.resolveWrite a d v
  · split
    · split
      · exact (refuse_samePool _ _).coherent evaluated
      · exact ((givePush_samePool _ _).trans (waitOn_samePool _ _)).coherent evaluated
    · exact evaluated.resolveWrite a d v

theorem coherent.resolveAgain (hs : s.coherent) {t : State} (h : s.resolveAgain = some t) : t.coherent := by
  unfold State.resolveAgain at h
  split at h
  · cases h
  · split at h
    · cases h
      exact hs.resolveRead _
    · cases h
      exact hs.resolveWrite _ _ _
    · cases h

theorem coherent.toOwner (hs : s.coherent) (a : Access) (d : Decode) : (s.toOwner a d).coherent := by
  unfold State.toOwner
  split
  case h_1 => exact (s.streamRead_samePool _ _).coherent hs
  case h_2 | h_3 | h_4 => exact hs.resolveRead d
  case h_5 | h_6 => exact (s.refuse_samePool _).coherent hs
  case h_7 => exact hs.writePath _ d _
  case h_8 => exact (s.barrierRequest_samePool.coherent hs).writePath _ d _

theorem coherent.handOff (hs : s.coherent) : s.handOff.coherent := by
  unfold State.handOff
  split
  · exact hs
  · split
    · exact ((s.setAccess_samePool _).trans (refuse_samePool _ _)).coherent hs
    · exact ((s.setAccess_samePool _).coherent hs).toOwner _ _

/-! ### The end of an access (R6, R43) -/

theorem coherent.ownerHears (hs : s.coherent) : s.ownerHears.coherent := by
  unfold State.ownerHears
  split
  · rename_i b _
    split
    · rename_i h
      rw [Bool.and_eq_true] at h
      exact (hs.cancelFetch ((hs.but b).fetchOnLink_of_fetchRequested h.2)).freeIfUnknown b
    · exact hs
  · exact hs

theorem coherent.portRefuses (hs : s.coherent) (c : Cause) : (s.portRefuses c).coherent :=
  (refuse_samePool _ c).coherent hs.ownerHears

end State
end Sys2Proof.Machine
end

section
/-! PROOFS. Coherence under the ends of link operations (R41, R42, R90, R94, R98, R117, R118), under the arbiter (R124), and where a
device becomes STUCK or ABSENT (R121, R123, R128). -/
namespace Sys2Proof.Machine

namespace State

variable {s : State} {b : Fin 16}

/-! ### A page fetch comes to its end -/

/-- A buffer with a fetch pending is pinned and not FREE (R40). -/
theorem coherent.pinned (hs : s.coherent) (h : 0 < s.fetchesPending b) :
    s.buffers[b].fill = true ∧ s.buffers[b].state ≠ .free := by
  have fill : s.buffers[b].fill = true := by
    by_contra hf
    rw [(hs.but b).places.fetches, if_neg hf] at h
    exact absurd h (Nat.lt_irrefl 0)
  refine ⟨fill, fun hfree => ?_⟩
  obtain ⟨-, hx, -⟩ := hs
  obtain ⟨-, -, -, -, hf, -⟩ := (PageBuffer.fits_free hfree).mp (hx b).2
  rw [hf] at fill
  cases fill

theorem fetchOnLink_of_link (s : State) (l : LinkOperation) (b : Fin 16) : State.fetchOnLink { s with link := some l } b =
    (decide (l.operation.kind = .pageFetch b) && l.hasRequester) := rfl

theorem fetchOnLink_of_idle (h : s.link = none) (b : Fin 16) : s.fetchOnLink b = false := by
  rw [fetchOnLink, h]

/-- The link falls free of the fetch of `b`, whose buffer is unpinned (R41, R42). -/
theorem coherent.fetchOver {l : LinkOperation} (h : State.coherent { s with link := some l }) (hl : s.link = none)
    (hk : l.operation.kind = .pageFetch b) (hr : l.hasRequester = true) {x : PageBuffer} (hf : x.fill = false)
    (he : x.state = s.buffers[b].state) (ht : x.tag = s.buffers[b].tag) : (s.setBuffer b x).CoherentBut b := by
  have linked (b' : Fin 16) : State.fetchesPending { s with link := some l } b' =
      s.requests.countP (fun o => decide (o.kind = .pageFetch b')) + if b' = b then 1 else 0 := by
    rw [fetchesPending, fetchOnLink_of_link, hk, hr, Bool.and_true]
    simp only [OperationKind.pageFetch.injEq, decide_eq_true_eq, @eq_comm _ b b']
  have idle (b' : Fin 16) : (s.setBuffer b x).fetchesPending b' =
      s.requests.countP (fun o => decide (o.kind = .pageFetch b')) := by
    have link : (s.setBuffer b x).fetchOnLink b' = false := fetchOnLink_of_idle (s := s.setBuffer b x) hl b'
    rw [fetchesPending, link]
    rfl
  refine (h.but b).refill (x := x) rfl rfl rfl (fun b' hb => ?_) ?_ he ht
  · rw [idle, linked, if_neg hb, Nat.add_zero]
  · have pending := (h.but b).places.fetches
    rw [linked, if_pos rfl] at pending
    rw [idle, hf, if_neg Bool.false_ne_true]
    split at pending <;> omega

theorem coherent.fetched {l : LinkOperation} (h : State.coherent { s with link := some l })
    (hk : l.operation.kind = .pageFetch b) (hr : l.hasRequester = true) : s.buffers[b].state ≠ .free := by
  refine (h.pinned (b := b) ?_).2
  rw [fetchesPending, fetchOnLink_of_link, hk, hr, decide_eq_true rfl]
  exact Nat.succ_pos _

/-- What a fetched page leaves of a record (R41). -/
theorem merge_same (x : PageBuffer) (data : PageBytes) : (x.merge data).state = x.state ∧ (x.merge data).tag = x.tag ∧
    (x.merge data).dirty = x.dirty ∧ (x.merge data).inFlight = x.inFlight ∧ (x.merge data).attempts = x.attempts ∧
    (x.merge data).commitRegion = x.commitRegion ∧ (x.merge data).ageDeadline = x.ageDeadline ∧
    (x.merge data).stage = x.stage := by
  simp only [PageBuffer.merge, and_self]

theorem merge_valid (x : PageBuffer) (data : PageBytes) : (x.merge data).valid = BitVec.allOnes 64 := by
  simp only [PageBuffer.merge]

theorem merge_fill (x : PageBuffer) (data : PageBytes) : (x.merge data).fill = false := by simp only [PageBuffer.merge]

theorem mapsNested_merge {x : PageBuffer} (h : x.mapsNested) (data : PageBytes) : (x.merge data).mapsNested := by
  obtain ⟨-, -, dirty, inFlight, -⟩ := merge_same x data
  obtain ⟨-, -, hdi⟩ := h
  refine ⟨?_, ?_, ?_⟩
  · rw [merge_valid, BitVec.not_allOnes]
    exact BitVec.and_zero
  · rw [merge_valid, BitVec.not_allOnes]
    exact BitVec.and_zero
  · rw [dirty, inFlight]
    exact hdi

theorem coherent.answerRead (hs : s.coherent) (hb : s.buffers[b].state ≠ .free) (d : Decode) :
    (s.answerRead b d).coherent :=
  (complete_samePool _ _).coherent (hs.touch hb)

theorem coherent.fetchComplete {l : LinkOperation} (h : State.coherent { s with link := some l }) (hl : s.link = none)
    (hk : l.operation.kind = .pageFetch b) (hr : l.hasRequester = true) (data : PageBytes) :
    (s.fetchComplete b data).coherent := by
  have hfree := h.fetched hk hr
  obtain ⟨-, hx, -⟩ := id h
  obtain ⟨nested, fits⟩ := hx b
  obtain ⟨state, tag, dirty, inFlight, attempts, region, age, stage⟩ := merge_same s.buffers[b] data
  have merged : (s.setBuffer b (s.buffers[b].merge data)).coherent :=
    (h.fetchOver hl hk hr (merge_fill _ data) state tag).coherent_setBuffer (mapsNested_merge nested data)
      ((fitsState_congr hfree state dirty inFlight tag attempts region age stage).mp fits)
  have pinned : (s.setBuffer b (s.buffers[b].merge data)).buffers[b].state ≠ .free := by
    rwa [buffers_setBuffer_self, state]
  unfold State.fetchComplete
  dsimp only
  generalize s.setBuffer b (s.buffers[b].merge data) = u at merged pinned
  have send (v : State) (hv : v.coherent) : (if v.engineWaits b then v.enterSend b else v).coherent := by
    split
    · rename_i hw
      obtain ⟨hc, -⟩ := engineWaits_iff.mp hw
      exact (hv.but b).enterSend hc (hv.unwritten hc)
    · exact hv
  refine send _ ?_
  split
  · split
    · exact merged.answerRead pinned _
    · exact merged
  · exact merged

theorem coherent.fetchFailed {l : LinkOperation} (h : State.coherent { s with link := some l }) (hl : s.link = none)
    (hk : l.operation.kind = .pageFetch b) (hr : l.hasRequester = true) (x : Stall) : (s.fetchFailed b x).coherent := by
  obtain ⟨-, hx, -⟩ := id h
  obtain ⟨nested, fits⟩ := hx b
  have released : (s.setBuffer b { s.buffers[b] with fill := false }).coherent :=
    (h.fetchOver hl hk hr (x := { s.buffers[b] with fill := false }) rfl rfl rfl).coherent_setBuffer nested
      (fitsState_unpinned fits)
  have unpinned : (s.setBuffer b { s.buffers[b] with fill := false }).buffers[b].fill = false := by
    rw [buffers_setBuffer_self]
  unfold State.fetchFailed
  dsimp only
  generalize s.setBuffer b { s.buffers[b] with fill := false } = u at released unpinned
  have refused : ∃ v : State, (if s.waiting = some (.fetch b) then u.refuse x.cause else u) = v ∧ v.coherent ∧
      v.buffers[b].fill = false := by
    refine ⟨_, rfl, ?_⟩
    split
    · exact ⟨(refuse_samePool _ _).coherent released, by simpa using unpinned⟩
    · exact ⟨released, unpinned⟩
  obtain ⟨v, hv, whole, unpinned⟩ := refused
  rw [hv]
  refine State.coherent.freeIfUnknown ?_ b
  split
  · rename_i hw
    exact whole.fillFailed hw unpinned
  · exact whole

/-! ### The link falls free of any other operation -/

theorem idle_samePool {l : LinkOperation} (hl : s.link = none)
    (h : ∀ b, l.operation.kind = .pageFetch b → l.hasRequester = false) :
    State.SamePool { s with link := some l } s := by
  refine ⟨rfl, rfl, .refl _, fun b => ?_⟩
  have off : State.fetchOnLink { s with link := some l } b = false := by
    rw [fetchOnLink_of_link]
    by_cases hk : l.operation.kind = .pageFetch b
    · rw [h b hk, Bool.and_false]
    · rw [decide_eq_false hk, Bool.false_and]
  rw [fetchesPending, fetchesPending, off, fetchOnLink_of_idle hl]

theorem coherent.operationFailed {l : LinkOperation} (h : State.coherent { s with link := some l }) (hl : s.link = none)
    (x : Stall) : (s.operationFailed l x).coherent := by
  have other (hk : ∀ b, l.operation.kind ≠ .pageFetch b) : s.coherent :=
    (idle_samePool hl fun b hb => absurd hb (hk b)).coherent h
  unfold State.operationFailed
  split <;> rename_i hk
  · split
    · rename_i hr
      exact h.fetchFailed hl hk hr x
    · rename_i hr
      exact (idle_samePool hl fun _ _ => Bool.eq_false_iff.mpr hr).coherent h
  · exact (burstFailed_samePool _ x).coherent (other (hk ▸ nofun))
  · have hs := other (hk ▸ nofun)
    split
    · rename_i hstage
      exact hs.sendFailed (inStage_iff.mp hstage).1
    · exact hs
  · have hs := other (hk ▸ nofun)
    split
    · rename_i hstage
      exact hs.checkFailed (inStage_iff.mp hstage).1
    · exact hs
  all_goals exact other (hk ▸ nofun)

/-! ### Operations ended unstarted (R123) -/

theorem endOperation_pageFetch (s : State) {o : Operation} {b : Fin 16} (h : o.kind = .pageFetch b) :
    ∃ u : State, s.endOperation o = (if u.engineWaits b then u.endDirty b else u).freeIfUnknown b ∧ u.link = s.link ∧
      (s.cancelFetch b).SamePool u := by
  refine ⟨if s.waiting = some (.fetch b) then (s.cancelFetch b).refuse .device else s.cancelFetch b, ?_, ?_, ?_⟩
  · rw [endOperation, h]
  · split <;> simp
  · split
    · exact refuse_samePool _ _
    · exact .refl _

theorem fetchOnLink_congr {t : State} (h : t.link = s.link) (b : Fin 16) : t.fetchOnLink b = s.fetchOnLink b := by
  rw [fetchOnLink, fetchOnLink, h]

theorem fetchOnLink_of_freeIfUnknown {b' : Fin 16} (h : (s.freeIfUnknown b').fetchOnLink b = true) :
    s.fetchOnLink b = true := by
  unfold freeIfUnknown at h
  split at h
  · unfold freeBuffer at h
    dsimp only at h
    generalize hu : (if Queue.hasEntry s.queue b' then s.removeEntry b' else s) = u at h
    have link : u.link = s.link := by
      rw [← hu]
      split <;> simp
    change ((u.cancelFetch b').orphanFetch b').fetchOnLink b = true at h
    rw [fetchOnLink_orphanFetch, Bool.and_eq_true] at h
    rw [← fetchOnLink_congr link b]
    exact h.2
  · exact h

/-- Ending an operation puts none on the link. -/
theorem fetchOnLink_of_endOperation {o : Operation} (h : (s.endOperation o).fetchOnLink b = true) :
    s.fetchOnLink b = true := by
  have kept (link : (s.endOperation o).link = s.link) : s.fetchOnLink b = true := by
    rwa [fetchOnLink_congr link] at h
  cases hk : o.kind with
  | pageFetch b' =>
    obtain ⟨u, hu, link, -⟩ := s.endOperation_pageFetch hk
    rw [hu] at h
    have link : (if u.engineWaits b' then u.endDirty b' else u).link = s.link := by
      split <;> simp [link]
    rw [← fetchOnLink_congr link b]
    exact fetchOnLink_of_freeIfUnknown h
  | program b' | checkRead b' =>
    refine kept ?_
    simp only [endOperation, hk]
    split <;> simp
  | streamRead | descriptorRead | poll | probeSelect => exact kept (by simp [endOperation, hk])

theorem coherent.endOperation (hs : s.coherent) {o : Operation}
    (h : ∀ b, o.kind = .pageFetch b → s.fetchOnLink b = false) : (s.endOperation o).coherent := by
  cases hk : o.kind with
  | pageFetch b =>
    obtain ⟨u, hu, -, same⟩ := s.endOperation_pageFetch hk
    have ended := same.coherent (hs.cancelFetch (h b hk))
    rw [hu]
    refine State.coherent.freeIfUnknown ?_ b
    split
    · rename_i hw
      exact ended.endDirty (engineWaits_iff.mp hw).1
    · exact ended
  | streamRead =>
    rw [State.endOperation, hk]
    exact ((withdraw_samePool s (k := .streamRead) nofun _).trans (burstFailed_samePool _ _)).coherent hs
  | program b =>
    rw [State.endOperation, hk]
    dsimp only
    split
    · rename_i hstage
      exact hs.endDirty (inStage_iff.mp hstage).1
    · exact (withdraw_samePool s (k := .program b) nofun _).coherent hs
  | checkRead b =>
    rw [State.endOperation, hk]
    dsimp only
    split
    · rename_i hstage
      exact hs.endDirty (inStage_iff.mp hstage).1
    · exact (withdraw_samePool s (k := .checkRead b) nofun _).coherent hs
  | descriptorRead =>
    rw [State.endOperation, hk]
    exact (withdraw_samePool s (k := .descriptorRead) nofun _).coherent hs
  | probeSelect =>
    rw [State.endOperation, hk]
    exact (withdraw_samePool s (k := .probeSelect) nofun _).coherent hs
  | poll =>
    rw [State.endOperation, hk]
    exact hs

theorem foldl_endOperation_coherent {l : List Operation} (hs : s.coherent)
    (h : ∀ o ∈ l, ∀ b, o.kind = .pageFetch b → s.fetchOnLink b = false) :
    (l.foldl (fun s o => s.endOperation o) s).coherent := by
  induction l generalizing s with
  | nil => exact hs
  | cons o l ih =>
    refine ih (hs.endOperation (h o List.mem_cons_self)) fun o' ho' b hb => ?_
    have before := h o' (List.mem_cons_of_mem o ho') b hb
    by_contra hl
    rw [fetchOnLink_of_endOperation (Bool.eq_true_of_not_eq_false hl)] at before
    cases before

theorem coherent.endOperations (hs : s.coherent) (d : Fin 4) : (s.endOperations d).coherent := by
  refine foldl_endOperation_coherent hs fun o ho b hb => (hs.but b).fetchOnLink_of_fetchRequested ?_
  rw [fetchRequested, List.any_eq_true]
  exact ⟨o, (List.mem_filter.mp ho).1, decide_eq_true hb⟩

/-! ### A device STUCK or ABSENT -/

theorem deviceStuck_samePool (s : State) (d : Fin 4) : s.SamePool (s.deviceStuck d) :=
  (setDevice_samePool s d _).trans (raise_samePool _ _)

theorem coherent.deviceAbsent (hs : s.coherent) (d : Fin 4) : (s.deviceAbsent d).coherent := by
  unfold State.deviceAbsent
  dsimp only
  have raised : (if s.devices[d].state = .absent then s else s.raise .deviceFault).coherent := by
    split
    · exact hs
    · exact (raise_samePool _ _).coherent hs
  refine foldl_invariant (P := State.coherent) (foldl_invariant (P := State.coherent)
    (State.coherent.endOperations ?_ d) ?_) ?_
  · exact ((withdraw_samePool _ (k := .probeSelect) nofun d).trans
      ((withdraw_samePool _ (k := .poll) nofun d).trans (setDevice_samePool _ d _))).coherent raised
  · intro u b hu
    unfold State.endCommitOf
    split
    · rename_i h
      exact hu.endDirty h.1
    · exact hu
  · intro u b hu
    unfold State.freeCleanOf
    split
    · exact hu.freeBuffer b
    · exact hu

end State
end Sys2Proof.Machine
end

section
/-! PROOFS. Coherence under the arbiter and the transfers (R118, R124), the polls and probes (R95, R96, R120–R122, R128–R130), the
commands of the management link (R57, R82, R105, R106), HOLDUP (R159), start-up (R188, R189) and reset (R183): O56. -/
namespace Sys2Proof.Machine

namespace State

variable {s : State}

/-! ### The arbiter and the attempts of a transfer -/

/-- The arbiter's choice stands in the request set. -/
theorem mem_of_choose {o : Operation} (h : s.choose = some o) : o ∈ s.requests := by
  have least (rank : Operation → Nat) (l : List Operation) {o : Operation} (h : leastRank rank l = some o) : o ∈ l := by
    induction l with
    | nil => cases h
    | cons o' l ih =>
      unfold leastRank at h
      split at h
      · cases h
        exact List.mem_cons_self
      · rename_i o'' hl
        split at h
        · cases h
          exact List.mem_cons_self
        · cases h
          exact List.mem_cons_of_mem o' (ih hl)
  have chosen (c : LinkClass) (h : s.chooseIn c = some o) : o ∈ s.requests :=
    (List.mem_filter.mp (least _ _ h)).1
  unfold choose at h
  simp only [Option.orElse_eq_orElse, Option.orElse_eq_or, Option.or_eq_some_iff] at h
  rcases h with h | ⟨-, h | ⟨-, h | ⟨-, h | ⟨-, h⟩⟩⟩⟩
  all_goals exact chosen _ h

/-- A fetch goes from the request set to the link with its requester: it stays pending (R40, R124). -/
theorem arbiterStart_samePool (s : State) : s.SamePool s.arbiterStart := by
  unfold arbiterStart
  split
  · rename_i o hl ho
    generalize hu : ({ s with
      requests := s.requests.erase o
      link := some { operation := o, form := s.formOf o, attempts := 1, selectErrors := 0, attemptStart := s.now,
                     hasRequester := true, counterLost := false } } : State) = u
    have requests : u.requests = s.requests.erase o := hu ▸ rfl
    have link (b : Fin 16) : u.fetchOnLink b = decide (o.kind = .pageFetch b) := by
      rw [← hu]
      exact Bool.and_true _
    refine ⟨hu ▸ rfl, hu ▸ rfl, hu ▸ .refl _, fun b => ?_⟩
    have moved := (List.perm_cons_erase (mem_of_choose ho)).countP_eq fun o => decide (o.kind = .pageFetch b)
    rw [fetchesPending, fetchesPending, link, requests, fetchOnLink_of_idle hl, moved, List.countP_cons]
    rfl
  · exact .refl s

/-- Another attempt of the operation on the link (R113). -/
theorem relink_samePool {l l' : LinkOperation} (hl : s.link = some l) (ho : l'.operation = l.operation)
    (hr : l'.hasRequester = l.hasRequester) : s.SamePool { s with link := some l' } := by
  refine ⟨rfl, rfl, .refl _, fun b => ?_⟩
  rw [fetchesPending, fetchesPending, fetchOnLink_of_link, ho, hr]
  rw [fetchOnLink.eq_def s, hl]

/-- The operation on the link has failed for good (R117). -/
theorem coherent.linkFailed (hs : s.coherent) {l : LinkOperation} (hl : s.link = some l) (x : Stall) :
    (State.operationFailed { s with link := none } l x).coherent := by
  have same : { { s with link := none } with link := some l } = s := by rw [← hl]
  exact State.coherent.operationFailed (s := { s with link := none }) (same.symm ▸ hs) rfl x

theorem coherent.lastAttemptFailed (hs : s.coherent) {l : LinkOperation} (hl : s.link = some l) (n : Nat) :
    (s.lastAttemptFailed l n).coherent := by
  unfold State.lastAttemptFailed
  dsimp only
  split
  · split
    · exact hs.linkFailed hl .device
    · have stuck := (deviceStuck_samePool s l.operation.device).coherent hs
      exact (stuck.linkFailed hl .device).endOperations l.operation.device
  · exact hs.linkFailed hl .fetchFailed

theorem coherent.transferBroken (hs : s.coherent) {l : LinkOperation} (hl : s.link = some l) (i : Nat) :
    (s.transferBroken l i).coherent := by
  unfold State.transferBroken
  dsimp only
  have moved := ((advanceTo_samePool s (l.attemptStart + brokenPeriods l.form i * Config.plcPeriod)).trans
    (setDevice_samePool _ l.operation.device { (s.advanceTo (l.attemptStart + brokenPeriods l.form i * Config.plcPeriod)).devices[l.operation.device] with counter := none })).coherent hs
  split
  · exact (relink_samePool hl rfl rfl).coherent moved
  · exact moved.lastAttemptFailed hl _

end State
end Sys2Proof.Machine
end

section
/-! PROOFS. Coherence under the polls and probes (R95, R96, R120–R122, R128–R130), the commands of the management link (R31, R57,
R82, R105, R106), HOLDUP (R159), start-up (R188, R189) and reset (R183); and so under every step: O56. -/
namespace Sys2Proof.Machine

namespace State

variable {s : State} {b : Fin 16}

/-! ### Polls -/

theorem committingIn_eq_some {d : Fin 4} {y : Stage} (h : s.committingIn d y = some b) :
    s.buffers[b].state = .committing := by
  have found := List.find?_some h
  simp only [Bool.and_eq_true, decide_eq_true_eq] at found
  obtain ⟨⟨hc, -⟩, -⟩ := found
  exact hc

theorem coherent.endBusy (hs : s.coherent) (hc : s.buffers[b].state = .committing) : (s.endBusy b).coherent := by
  unfold State.endBusy
  split
  · exact hs.enterCheck hc
  · exact hs.endWell hc

theorem coherent.pollAcknowledged (hs : s.coherent) (d : Fin 4) : (s.pollAcknowledged d).coherent := by
  unfold State.pollAcknowledged
  split
  · have ready := (setDevice_samePool s d
      { s.devices[d] with state := .ready, pollDue := none, timeout := none }).coherent hs
    dsimp only
    split
    · rename_i b hb
      exact ready.endBusy (committingIn_eq_some hb)
    · exact ready
  · exact (setDevice_samePool s d _).coherent hs
  · exact hs
  · exact hs

theorem coherent.pollRefused (hs : s.coherent) (d : Fin 4) : (s.pollRefused d).coherent := by
  unfold State.pollRefused
  split
  case h_1 | h_2 => exact (setDevice_samePool s d _).coherent hs
  all_goals exact hs

theorem coherent.programTimedOut (hs : s.coherent) (d : Fin 4) : (s.programTimedOut d).coherent := by
  unfold State.programTimedOut
  have stuck := (deviceStuck_samePool s d).coherent hs
  dsimp only
  refine State.coherent.endOperations ?_ d
  split
  · rename_i b hb
    exact stuck.becomeFailed (committingIn_eq_some hb)
  · exact stuck

theorem coherent.probeRefused (hs : s.coherent) (d : Fin 4) : (s.probeRefused d).coherent := by
  unfold State.probeRefused
  split
  · exact hs
  · split
    · exact hs.deviceAbsent d
    · exact (setDevice_samePool s d _).coherent hs

theorem startProbe_samePool (s : State) (d : Fin 4) (bound : Time) : s.SamePool (s.startProbe d bound) :=
  (withdraw_samePool s (k := .poll) nofun d).trans (setDevice_samePool _ d _)

/-! ### The management link -/

theorem loseCounter_samePool (s : State) (d : Fin 4) : s.SamePool (s.loseCounter d) := by
  unfold loseCounter
  split
  · exact .refl s
  · rename_i l hl
    split
    · exact relink_samePool hl rfl rfl
    · exact .refl s

theorem streamCapacityChange_samePool (s : State) (d : Fin 4) : s.SamePool (s.streamCapacityChange d) := by
  unfold streamCapacityChange
  split
  · split
    · exact (refuse_samePool s _).trans (streamIdle_samePool _)
    · exact streamIdle_samePool s
  · exact .refl s

theorem coherent.changeCapacity (hs : s.coherent) (d : Fin 4) (c : Capacity) : (s.changeCapacity d c).coherent := by
  unfold State.changeCapacity
  dsimp only
  refine (streamCapacityChange_samePool _ d).coherent (foldl_invariant (P := State.coherent) ?_ fun u b hu => ?_)
  · exact ((setDevice_samePool s d _).trans (loseCounter_samePool _ d)).coherent hs
  · unfold freeBeyond
    split
    · exact hu.freeBuffer b
    · exact hu

theorem coherent.installSettings (hs : s.coherent) (x : Settings) (new : Vector Capacity 4) :
    (s.installSettings x new).coherent := by
  unfold State.installSettings
  refine foldl_invariant (P := State.coherent) (SamePool.coherent (.of_frame ⟨rfl, rfl, rfl, rfl, rfl⟩) hs) fun u d hu => ?_
  split
  · exact hu.changeCapacity d new[d]
  · exact hu

theorem commanded_samePool (s : State) (x : CommandStatus) : s.SamePool (s.commanded x) := setManagement_samePool s _

theorem applied_samePool (s : State) (x : ApplyStatus) : s.SamePool (s.applied x) := setManagement_samePool s _

theorem takeCommandBytes_samePool (s : State) (x : Shadow) : s.SamePool (s.takeCommandBytes x) := setManagement_samePool s _

theorem failedArgument_eq_some (h : s.failedArgument = some b) : s.buffers[b].state = .failed := by
  unfold failedArgument at h
  split at h
  · split at h
    · rename_i hf
      cases h
      simpa [isFailed] using hf
    · cases h
  · cases h

theorem coherent.retryCommand (hs : s.coherent) : s.retryCommand.coherent := by
  unfold State.retryCommand
  split
  · rename_i b hb
    have hb := failedArgument_eq_some hb
    obtain ⟨-, hx, -⟩ := id hs
    obtain ⟨nested, fits⟩ := hx b
    obtain ⟨hd, hi, ht, -, hr, hstage⟩ := (PageBuffer.fits_failed hb).mp fits
    have again := (hs.but b).setEntered (x := { s.buffers[b] with state := .dirty, attempts := 0 }) rfl (by rw [hb]; rfl)
      rfl rfl nofun
    exact ((givePush_samePool _ b).trans (commanded_samePool _ _)).coherent (again.coherent_setBuffer nested
      ((PageBuffer.fits_dirty (x := { s.buffers[b] with state := .dirty, attempts := 0 }) rfl).mpr
        ⟨hd, hi, ht, Nat.zero_le 2, hr, hstage⟩))
  · exact (commanded_samePool s _).coherent hs

theorem coherent.discardCommand (hs : s.coherent) : s.discardCommand.coherent := by
  unfold State.discardCommand
  split
  · dsimp only
    refine (commanded_samePool _ _).coherent (State.coherent.freeBuffer ?_ _)
    split
    · exact (streamDiscarded_samePool s _ _).coherent hs
    · exact hs
  · exact (commanded_samePool s _).coherent hs

theorem coherent.dropClean (hs : s.coherent) : s.dropClean.coherent := by
  unfold State.dropClean
  refine foldl_invariant (P := State.coherent) hs fun u b hu => ?_
  split
  · exact hu.freeBuffer b
  · exact hu

theorem reprobeCommand_samePool (s : State) : s.SamePool s.reprobeCommand := by
  unfold reprobeCommand
  split
  · exact (startProbe_samePool s _ _).trans (commanded_samePool _ _)
  · exact commanded_samePool s _

theorem coherent.applyShadow (hs : s.coherent) (x : Shadow) : (s.applyShadow x).coherent := by
  have taken := (takeCommandBytes_samePool s x).coherent hs
  unfold State.applyShadow
  cases x.kind with
  | region n =>
    unfold State.applyRegion
    dsimp only
    split <;> exact SamePool.coherent (.of_frame ⟨rfl, rfl, rfl, rfl, rfl⟩) hs
  | watch n =>
    unfold State.applyWatch
    dsimp only
    split <;> exact SamePool.coherent (.of_frame ⟨rfl, rfl, rfl, rfl, rfl⟩) hs
  | settings =>
    unfold State.applySettings
    dsimp only
    split
    · exact (applied_samePool _ _).coherent (hs.installSettings _ _)
    · exact (applied_samePool s _).coherent hs
  | eventFlagClear | faultRecordEmpty => exact SamePool.coherent (.of_frame ⟨rfl, rfl, rfl, rfl, rfl⟩) hs
  | readOnly => exact (applied_samePool s _).coherent hs
  | argumentStore => exact taken
  | flush => exact ((flushRequest_samePool _).trans (commanded_samePool _ _)).coherent taken
  | barrier => exact ((barrierRequest_samePool _).trans (commanded_samePool _ _)).coherent taken
  | retry => exact taken.retryCommand
  | discard => exact taken.discardCommand
  | dropClean => exact (commanded_samePool _ _).coherent taken.dropClean
  | reprobe => exact (reprobeCommand_samePool _).coherent taken
  | unknown => exact (commanded_samePool _ _).coherent taken

theorem coherent.endTransaction (hs : s.coherent) : s.endTransaction.coherent := by
  unfold State.endTransaction
  split
  · exact (setManagement_samePool _ _).coherent (hs.applyShadow _)
  · exact (setManagement_samePool _ _).coherent hs

theorem openTransaction_samePool (s : State) (v : Byte) : s.SamePool (s.openTransaction v) := by
  unfold openTransaction
  split <;> exact setManagement_samePool s _

theorem takePointer_samePool (s : State) (v : Byte) : s.SamePool (s.takePointer v) := by
  unfold takePointer
  split
  case h_1 => exact setManagement_samePool s _
  all_goals exact .refl s

theorem takeData_samePool (s : State) (v : Byte) : s.SamePool (s.takeData v) := by
  unfold takeData
  split
  case h_1 => exact setManagement_samePool s _
  all_goals exact .refl s

theorem sendByte_samePool (s : State) (acknowledged : Bool) : s.SamePool (s.sendByte acknowledged) := by
  unfold sendByte
  split
  case h_1 => exact setManagement_samePool s _
  all_goals exact .refl s

/-! ### HOLDUP, start-up and reset -/

theorem coherent.enterHoldup (hs : s.coherent) : s.enterHoldup.coherent := by
  unfold State.enterHoldup
  dsimp only
  refine foldl_invariant (P := State.coherent) ?_ fun u b hu => ?_
  · refine (streamIdle_samePool _).coherent (State.coherent.portRefuses ?_ _)
    exact (raise_samePool _ _).coherent (SamePool.coherent (.of_frame ⟨rfl, rfl, rfl, rfl, rfl⟩) hs)
  · unfold State.endUnstartedCheck
    split
    · rename_i h
      rw [Bool.and_eq_true] at h
      exact hu.endWell (inStage_iff.mp h.1).1
    · exact hu

theorem coherent.endStartup (hs : s.coherent) : s.endStartup.coherent :=
  endStartup_induct (P := State.coherent) (fun _ _ => SamePool.coherent (.of_frame ⟨rfl, rfl, rfl, rfl, rfl⟩) hs)
    (fun _ hu => (raise_samePool _ _).coherent hu) (fun _ hu => hu.enterHoldup)
    (fun _ hu => SamePool.coherent (.of_frame ⟨rfl, rfl, rfl, rfl, rfl⟩) hu) fun _ hu => hu.handOff

theorem coherent.endProbePhase (hs : s.coherent) : s.endProbePhase.coherent := by
  unfold State.endProbePhase
  split
  · exact SamePool.coherent (request_samePool _ (by exact nofun))
      (SamePool.coherent (.of_frame ⟨rfl, rfl, rfl, rfl, rfl⟩) hs)
  · exact hs.endStartup

theorem held_coherent : State.held.coherent :=
  SamePool.coherent (.of_frame ⟨rfl, rfl, rfl, rfl, rfl⟩) reset_coherent

theorem beginReset_coherent (s : State) : s.beginReset.coherent :=
  SamePool.coherent (.of_frame ⟨rfl, rfl, rfl, rfl, rfl⟩) held_coherent

theorem endReset_coherent (s : State) (style : CycleStyle) (msa below : Bool) : (s.endReset style msa below).coherent := by
  unfold endReset
  exact foldl_invariant (P := State.coherent) (SamePool.coherent (.of_frame ⟨rfl, rfl, rfl, rfl, rfl⟩) s.beginReset_coherent)
    fun u d hu => (startProbe_samePool u d _).coherent hu

/-! ### The consequences of a step -/

end State

/-- Every consequence keeps coherence. -/
theorem Drawn.coherent {s t : State} (h : Drawn s t) (hs : s.coherent) : t.coherent := by
  cases h with
  | refused c _ => exact (s.refuse_samePool c).coherent hs
  | completed b _ _ => exact (s.complete_samePool 0).coherent hs
  | resolved _ _ ht => exact hs.resolveAgain ht
  | served _ _ => exact s.serveStream_samePool.coherent hs
  | flushed _ => exact s.completeFlush_samePool.coherent hs
  | stopped b _ h =>
    have hc := (State.engineWaits_iff.mp h).1
    exact (hs.but b).stopCommit (State.hasEntry_of_committing hc) (hs.unwritten hc)
  | started b h => exact hs.startCommit h
  | handedOver b h => exact hs.handOver h
  | probed _ _ => exact hs.endProbePhase
  | startedUp _ _ => exact hs.endStartup

theorem State.coherent.conclude {s : State} (hs : s.coherent) (before : State) : (s.conclude before).coherent := by
  have settled : s.settle.coherent := State.settle_induct (P := State.coherent) (fun _ _ hu hd => hd.coherent hu) hs
  unfold State.conclude State.noteShort
  split
  · exact (State.raise_samePool _ _).coherent settled
  · exact settled

end Sys2Proof.Machine
end

section
/-! PROOFS. Coherence row by row of the table: O56. -/
namespace Sys2Proof.Machine

theorem State.coherent_of_act {s t : State} {f : State → State} (h : s.act f = .next t) (hs : s.coherent)
    (hf : (f s).coherent) : t.coherent := by
  unfold State.act at h
  split at h
  · cases h
    exact hs
  · cases h
    exact hf.conclude s

theorem State.coherent_of_applyRow {s t : State} {isKind : ApplyKind → Bool} (h : s.applyRow isKind = .next t)
    (hs : s.coherent) : t.coherent := by
  refine State.coherent_of_act h hs ?_
  split
  · split
    · exact hs.endTransaction
    · exact hs
  · exact hs

theorem State.coherent.receive {s : State} (hs : s.coherent) : s.receive.coherent := by
  unfold State.receive
  split
  · exact hs.handOff
  · exact hs
  · exact (s.refuse_samePool _).coherent hs

theorem State.advanceTo_coherent {s : State} (hs : s.coherent) (time : Time) : (s.advanceTo time).coherent :=
  (s.advanceTo_samePool time).coherent hs

theorem exec_hostBus_coherent {c : Instr} {s t : State} (hc : commandClass c = .hostBus) (h : exec c s = .next t)
    (hs : s.coherent) : t.coherent := by
  cases c with
  | hostAccessStart edge ceLow address data =>
    simp only [exec, execHostAccessStart] at h
    refine State.coherent_of_act h hs ?_
    split
    · split
      · exact State.coherent.receive (State.SamePool.coherent (.of_frame ⟨rfl, rfl, rfl, rfl, rfl⟩) hs)
      · exact hs
    · exact hs
  | hostAccessEnd edge =>
    simp only [exec, execHostAccessEnd] at h
    refine State.coherent_of_act h hs ?_
    split
    · exact hs
    · split
      · exact (State.setAccess_samePool _ _).coherent hs.ownerHears
      · exact hs
  | waitDeadline =>
    simp only [exec, execWaitDeadline] at h
    refine State.coherent_of_act h hs ?_
    split
    · exact hs
    · exact State.advanceTo_coherent hs _
  | holdDeadline =>
    simp only [exec, execHoldDeadline] at h
    refine State.coherent_of_act h hs ?_
    split
    · exact (State.advanceTo_coherent hs _).portRefuses _
    · exact hs
  | _ => cases hc

/-- A record keeps fitting its state when its age deadline is cleared. -/
theorem PageBuffer.fitsState_ageless {x : PageBuffer} (h : x.fitsState = true) :
    { x with ageDeadline := none }.fitsState = true := by
  by_cases hfree : x.state = .free
  · obtain ⟨hv, hd, hi, ht, hf, ha, hr, -, hstage, hsent⟩ := (fits_free hfree).mp h
    exact (fits_free (x := { x with ageDeadline := none }) hfree).mpr ⟨hv, hd, hi, ht, hf, ha, hr, rfl, hstage, hsent⟩
  · by_cases hclean : x.state = .clean
    · obtain ⟨hd, hi, ht, ha, hr, -, hstage⟩ := (fits_clean hclean).mp h
      exact (fits_clean (x := { x with ageDeadline := none }) hclean).mpr ⟨hd, hi, ht, ha, hr, rfl, hstage⟩
    · unfold fitsState at h ⊢
      cases hx : x.state with
      | free => exact absurd hx hfree
      | clean => exact absurd hx hclean
      | _ => simpa only [hx] using h

theorem State.coherent.ageExpired {s : State} (hs : s.coherent) (b : Fin 16) : (s.ageExpired b).coherent := by
  obtain ⟨-, hx, -⟩ := id hs
  obtain ⟨nested, fits⟩ := hx b
  have p := (hs.but b).places
  have ageless : (s.setBuffer b { s.buffers[b] with ageDeadline := none }).coherent :=
    ((hs.but b).setBuffer (x := { s.buffers[b] with ageDeadline := none }) rfl Iff.rfl rfl rfl
      fun hc => ⟨p.front hc, p.alone hc⟩).coherent_setBuffer nested (PageBuffer.fitsState_ageless fits)
  exact State.SamePool.coherent (s := s.setBuffer b { s.buffers[b] with ageDeadline := none })
    (.of_queue (Queue.giveAged_keeps _ b) ⟨rfl, rfl, rfl, rfl⟩) ageless

theorem exec_commits_coherent {c : Instr} {s t : State} (hc : commandClass c = .commits) (h : exec c s = .next t)
    (hs : s.coherent) : t.coherent := by
  cases c with
  | commitStart b =>
    simp only [exec, execCommitStart] at h
    refine State.coherent_of_act h hs ?_
    split
    · rename_i hb
      have found := List.find?_some hb
      rw [Bool.and_eq_true] at found
      exact hs.startCommit found.1
    · exact hs
  | absentHandover b =>
    simp only [exec, execAbsentHandover] at h
    refine State.coherent_of_act h hs ?_
    split
    · rename_i hb
      exact hs.handOver hb
    · exact hs
  | ageDeadline b =>
    simp only [exec, execAgeDeadline] at h
    refine State.coherent_of_act h hs ?_
    split
    · exact hs
    · exact (State.advanceTo_coherent hs _).ageExpired b
  | flushreqFall =>
    simp only [exec, execFlushreqFall] at h
    split at h
    · cases h
      exact State.SamePool.coherent (.of_frame ⟨rfl, rfl, rfl, rfl, rfl⟩) hs
    · refine State.coherent_of_act h hs ?_
      split
      · exact hs
      · exact (State.flushRequest_samePool _).coherent (State.SamePool.coherent (.of_frame ⟨rfl, rfl, rfl, rfl, rfl⟩) hs)
  | flushreqRise =>
    cases h
    exact State.SamePool.coherent (.of_frame ⟨rfl, rfl, rfl, rfl, rfl⟩) hs
  | _ => cases hc

theorem exec_deviceRow_coherent {c : Instr} {d : Fin 4} {s t : State} (hc : commandClass c = .pageLink (some d))
    (h : exec c s = .next t) (hs : s.coherent) : t.coherent := by
  cases c with
  | pollDue d' =>
    simp only [exec, execPollDue] at h
    refine State.coherent_of_act h hs ?_
    split
    · exact hs
    · split
      · exact hs
      · exact (State.request_samePool _ (by exact nofun)).coherent (State.advanceTo_coherent hs _)
  | programTimeout d' =>
    simp only [exec, execProgramTimeout] at h
    refine State.coherent_of_act h hs ?_
    split
    · exact hs
    · split
      · exact (State.advanceTo_coherent hs _).programTimedOut d'
      · exact hs
  | probeSelectDue d' =>
    simp only [exec, execProbeSelectDue] at h
    refine State.coherent_of_act h hs ?_
    split
    · exact hs
    · split
      · exact hs
      · exact (State.request_samePool _ (by exact nofun)).coherent (State.advanceTo_coherent hs _)
  | probeDeadline d' =>
    simp only [exec, execProbeDeadline] at h
    refine State.coherent_of_act h hs ?_
    split
    · exact hs
    · split
      · exact State.advanceTo_coherent hs _
      · exact (State.advanceTo_coherent hs _).deviceAbsent d'
  | _ => cases hc

/-! ### The ends of transfers -/

theorem State.freeLink_idle (s : State) (l : LinkOperation) : (s.freeLink l).link = none := rfl

/-- The link falls free of an operation that is no page fetch (R117). -/
theorem State.coherent.freeLink {s : State} (hs : s.coherent) {l : LinkOperation} (hl : s.link = some l)
    (h : ∀ b, l.operation.kind = .pageFetch b → l.hasRequester = false) : (s.freeLink l).coherent := by
  have same : s.SamePool { s.freeLink l with link := some l } := .of_frame ⟨rfl, rfl, rfl, rfl, hl.symm⟩
  exact (State.idle_samePool (s.freeLink_idle l) h).coherent (same.coherent hs)

theorem State.moveCounter_samePool (s : State) (l : LinkOperation) (address : Nat) :
    s.SamePool (s.moveCounter l address) := by
  unfold State.moveCounter
  dsimp only
  split <;> exact s.setDevice_samePool _ _

theorem State.moveCounter_link (s : State) (l : LinkOperation) (address : Nat) :
    (s.moveCounter l address).link = s.link := by simp

theorem State.coherent.readCompleted {s : State} (hs : s.coherent) {l : LinkOperation} (hl : s.link = some l)
    (h : ∀ b, l.operation.kind = .pageFetch b → l.hasRequester = false) : (s.readCompleted l).coherent :=
  (State.moveCounter_samePool _ l _).coherent (hs.freeLink hl h)

/-- The link back with its operation after a read has ended: what coherence said of the state before. -/
theorem State.coherent.relinked {s : State} (hs : s.coherent) {l : LinkOperation} (hl : s.link = some l) :
    State.coherent { s.readCompleted l with link := some l } := by
  refine State.SamePool.coherent (s := s) (.of_frame ⟨?_, ?_, ?_, ?_, hl.symm⟩) hs
  all_goals
    unfold State.readCompleted
    simp

theorem exec_pageFetchComplete_coherent {data : PageBytes} {s t : State}
    (h : exec (.pageFetchComplete data) s = .next t) (hs : s.coherent) : t.coherent := by
  simp only [exec, execPageFetchComplete] at h
  refine State.coherent_of_act h hs ?_
  split
  · exact hs
  · rename_i l hl
    split
    · rename_i b hk
      split
      · rename_i hr
        exact (hs.relinked hl).fetchComplete (State.moveCounter_link _ l _) hk hr data
      · rename_i hr
        exact hs.readCompleted hl fun _ _ => Bool.eq_false_iff.mpr hr
    all_goals exact hs

theorem exec_checkReadComplete_coherent {data : PageBytes} {s t : State}
    (h : exec (.checkReadComplete data) s = .next t) (hs : s.coherent) : t.coherent := by
  simp only [exec, execCheckReadComplete] at h
  refine State.coherent_of_act h hs ?_
  split
  · exact hs
  · rename_i l hl
    split
    · rename_i b hk
      have read := hs.readCompleted hl fun b' hb => by rw [hk] at hb; cases hb
      split
      · rename_i hstage
        have hc := (State.inStage_iff.mp hstage).1
        split
        · exact read.endWell hc
        · exact read.checkFailed hc
      · exact read
    all_goals exact hs

theorem exec_programComplete_coherent {s t : State} (h : exec .programComplete s = .next t) (hs : s.coherent) :
    t.coherent := by
  simp only [exec, execProgramComplete] at h
  refine State.coherent_of_act h hs ?_
  split
  · exact hs
  · rename_i l hl
    split
    · rename_i b hk
      have sent := (State.moveCounter_samePool _ l (programEndAddress l.operation)).coherent
        (hs.freeLink hl fun b' hb => by rw [hk] at hb; cases hb)
      split
      · rename_i hstage
        exact sent.enterBusy (State.inStage_iff.mp hstage).1 _
      · exact sent
    all_goals exact hs

theorem exec_linkRow_coherent {c : Instr} {s t : State} (hc : commandClass c = .pageLink none)
    (h : exec c s = .next t) (hs : s.coherent) : t.coherent := by
  cases c with
  | pageFetchComplete data => exact exec_pageFetchComplete_coherent h hs
  | checkReadComplete data => exact exec_checkReadComplete_coherent h hs
  | programComplete => exact exec_programComplete_coherent h hs
  | arbiterStart =>
    simp only [exec, execArbiterStart] at h
    exact State.coherent_of_act h hs (s.arbiterStart_samePool.coherent hs)
  | transferError byteIndex =>
    simp only [exec, execTransferError] at h
    refine State.coherent_of_act h hs ?_
    split
    · exact hs
    · rename_i l hl
      split
      case h_1 | h_2 => exact hs
      all_goals
        split
        · exact hs.transferBroken hl byteIndex
        · exact hs
  | streamReadComplete data =>
    simp only [exec, execStreamReadComplete] at h
    refine State.coherent_of_act h hs ?_
    split
    · exact hs
    · rename_i l hl
      split
      · rename_i hk
        exact (State.burstComplete_samePool _ data).coherent
          (hs.readCompleted hl fun b' hb => by rw [hk] at hb; cases hb)
      all_goals exact hs
  | descriptorReadComplete data =>
    simp only [exec, execDescriptorReadComplete] at h
    refine State.coherent_of_act h hs ?_
    split
    · exact hs
    · rename_i l hl
      split
      · rename_i hk
        exact State.SamePool.coherent (.of_frame ⟨rfl, rfl, rfl, rfl, rfl⟩)
          (hs.readCompleted hl fun b' hb => by rw [hk] at hb; cases hb)
      all_goals exact hs
  | pollAcknowledge =>
    simp only [exec, execPollAcknowledge] at h
    refine State.coherent_of_act h hs ?_
    split
    · exact hs
    · rename_i l hl
      split
      · rename_i hk
        exact (hs.freeLink hl fun b' hb => by rw [hk] at hb; cases hb).pollAcknowledged _
      all_goals exact hs
  | pollRefuse =>
    simp only [exec, execPollRefuse] at h
    refine State.coherent_of_act h hs ?_
    split
    · exact hs
    · rename_i l hl
      split
      · rename_i hk
        exact (hs.freeLink hl fun b' hb => by rw [hk] at hb; cases hb).pollRefused _
      all_goals exact hs
  | probeSelectAcknowledge =>
    simp only [exec, execProbeSelectAcknowledge] at h
    refine State.coherent_of_act h hs ?_
    split
    · exact hs
    · rename_i l hl
      split
      · rename_i hk
        exact (State.setDevice_samePool _ _ _).coherent (hs.freeLink hl fun b' hb => by rw [hk] at hb; cases hb)
      all_goals exact hs
  | probeSelectRefuse =>
    simp only [exec, execProbeSelectRefuse] at h
    refine State.coherent_of_act h hs ?_
    split
    · exact hs
    · rename_i l hl
      split
      · rename_i hk
        exact (hs.freeLink hl fun b' hb => by rw [hk] at hb; cases hb).probeRefused _
      all_goals exact hs
  | _ => cases hc

/-! ### Supply, reset and management link -/

theorem State.setSupply_samePool (s : State) (x : SupplyState) (sag recovery : Option Time) :
    s.SamePool (s.setSupply x sag recovery) := .of_frame ⟨rfl, rfl, rfl, rfl, rfl⟩

theorem State.coherent.supplyLow {s : State} (hs : s.coherent) : s.supplyLow.coherent := by
  have low := (s.setSupply_samePool .low none none).coherent hs
  unfold State.supplyLow
  dsimp only
  split
  · exact low.enterHoldup
  · exact low

theorem State.coherent.supplyRecovered {s : State} (hs : s.coherent) : s.supplyRecovered.coherent := by
  have normal := (s.setSupply_samePool .normal none none).coherent hs
  unfold State.supplyRecovered
  dsimp only
  split
  · exact State.SamePool.coherent (.of_frame (by simp)) normal
  · exact normal

theorem exec_supply_coherent {c : Instr} {s t : State} (hc : commandClass c = .supply) (h : exec c s = .next t)
    (hs : s.coherent) : t.coherent := by
  have set (x : SupplyState) (sag recovery : Option Time) : (s.setSupply x sag recovery).coherent :=
    (s.setSupply_samePool x sag recovery).coherent hs
  cases c with
  | supplyBelowWarning =>
    simp only [exec, execSupplyBelowWarning] at h
    refine State.coherent_of_act h hs ?_
    split
    · exact set _ _ _
    · exact hs
  | supplyAboveWarning =>
    simp only [exec, execSupplyAboveWarning] at h
    refine State.coherent_of_act h hs ?_
    split
    · exact set _ _ _
    · exact hs
  | supplyAboveRecovery =>
    simp only [exec, execSupplyAboveRecovery] at h
    refine State.coherent_of_act h hs ?_
    split
    · exact set _ _ _
    · exact hs
  | supplyBelowRecovery =>
    simp only [exec, execSupplyBelowRecovery] at h
    refine State.coherent_of_act h hs ?_
    split
    · exact set _ _ _
    · exact hs
  | sagTimerExpiry =>
    simp only [exec, execSagTimerExpiry] at h
    refine State.coherent_of_act h hs ?_
    split
    · exact (State.advanceTo_coherent hs _).supplyLow
    · exact hs
  | recoveryTimerExpiry =>
    simp only [exec, execRecoveryTimerExpiry] at h
    refine State.coherent_of_act h hs ?_
    split
    · exact (State.advanceTo_coherent hs _).supplyRecovered
    · exact hs
  | _ => cases hc

theorem exec_reset_coherent {c : Instr} {s t : State} (hc : commandClass c = .reset) (h : exec c s = .next t)
    (hs : s.coherent) : t.coherent := by
  cases c with
  | powerOnReset | rstAssert =>
    cases h
    exact s.beginReset_coherent
  | resetEnd style msa below =>
    simp only [exec, execResetEnd] at h
    split at h
    · cases h
      exact s.endReset_coherent style msa below
    · cases h
      exact hs
  | _ => cases hc

theorem exec_management_coherent {c : Instr} {s t : State} (hc : commandClass c = .management)
    (h : exec c s = .next t) (hs : s.coherent) : t.coherent := by
  cases c with
  | managementAddressByte v =>
    simp only [exec, execManagementAddressByte] at h
    split at h
    · cases h
      exact hs
    · cases h
      exact (State.openTransaction_samePool _ v).coherent (hs.endTransaction.conclude s)
  | pointerByte v =>
    simp only [exec, execPointerByte] at h
    exact State.coherent_of_act h hs ((s.takePointer_samePool v).coherent hs)
  | dataByte v =>
    simp only [exec, execDataByte] at h
    exact State.coherent_of_act h hs ((s.takeData_samePool v).coherent hs)
  | managementReadByte acknowledged =>
    simp only [exec, execManagementReadByte] at h
    exact State.coherent_of_act h hs ((s.sendByte_samePool acknowledged).coherent hs)
  | managementTransactionEnd =>
    simp only [exec, execManagementTransactionEnd] at h
    exact State.coherent_of_act h hs hs.endTransaction
  | regionApply | watchApply | settingsApply | eventFlagClear | faultRecordEmpty | readOnlyApply
  | commandArgumentStore | flush | barrier | retry | discard | dropClean | reprobe | unknownCommand =>
    simp only [exec, execRegionApply, execWatchApply, execSettingsApply, execEventFlagClear, execFaultRecordEmpty,
      execReadOnlyApply, execCommandArgumentStore, execFlush, execBarrier, execRetry, execDiscard, execDropClean,
      execReprobe, execUnknownCommand] at h
    exact State.coherent_of_applyRow h hs
  | _ => cases hc

theorem exec_coherent {c : Instr} {s t : State} (h : exec c s = .next t) (hs : s.coherent) : t.coherent := by
  rcases hc : commandClass c with _ | device | _ | _ | _ | _
  · exact exec_hostBus_coherent hc h hs
  · cases device with
    | none => exact exec_linkRow_coherent hc h hs
    | some d => exact exec_deviceRow_coherent hc h hs
  · exact exec_commits_coherent hc h hs
  · exact exec_supply_coherent hc h hs
  · exact exec_reset_coherent hc h hs
  · exact exec_management_coherent hc h hs

/-- Settles O56: each operation changes one buffer and gives it its place in queue, recency list and request set, row by
row; in a queue of the canonical form entries and markers alternate, so it holds 32 at most. -/
theorem stepKeepsBuffersAndQueueCoherent : Obligations.StepKeepsBuffersAndQueueCoherent := by
  refine ⟨fun s t hs h => ?_, fun s hs => Queue.length_le_of_canonical (hs.but 0).queue⟩
  unfold step at h
  split at h
  · cases h
    exact State.SamePool.coherent (.of_frame ⟨rfl, rfl, rfl, rfl, rfl⟩) hs
  · exact exec_coherent h (State.SamePool.coherent (.of_frame ⟨rfl, rfl, rfl, rfl, rfl⟩) hs)

end Sys2Proof.Machine
end

section
/-! PROOFS. The access of an active edge in RUNNING, decoded and handed to its owner (R4, R6), and the reads answered or refused at
once (R44, R45, R46): O9. -/
namespace Sys2Proof.Machine

/-- The state at an active edge in RUNNING with the access decoded, as its owner finds it (R4, R6). -/
def State.decoded (s : State) (dir : Direction) (address : HostAddress) (data : Byte) (d : Decode) : State :=
  (s.latched dir address data).setAccess (some (s.decodedAccess dir address data d))

section Decoded
variable {s : State} {edge : ActiveEdge} {dir : Direction} {address : HostAddress} {data : Byte} {d : Decode}

theorem State.handOff_of_decoded (h : s.decode address = some d) : (s.latched dir address data).handOff =
    (s.decoded dir address data d).toOwner (s.decodedAccess dir address data d) d := by
  rw [State.handOff, show (s.latched dir address data).port.access = some (s.newAccess dir address) from rfl]
  dsimp only
  rw [show (s.latched dir address data).decode (s.newAccess dir address).address = some d from h]
  dsimp only
  rw [s.takeByte_newAccess]
  rfl

/-- HOST_ACCESS_START in RUNNING: the decoded access goes to its owner, and the consequences follow. -/
theorem exec_of_takesAccess (h : s.takesAccess edge dir address d) (data : Byte) :
    exec (.hostAccessStart edge true address data) s =
      .next (((s.decoded dir address data d).toOwner (s.decodedAccess dir address data d) d).conclude s) := by
  obtain ⟨⟨hr, -⟩, hpart, hidle, hdir, hdecode⟩ := h
  rw [exec_hostAccessStart hr hidle hdir, State.receive, show (s.startAccess dir address data).part = .running from hpart]
  dsimp only
  rw [State.handOff_of_decoded hdecode]

/-- A read that the Pool resolves (R6). -/
theorem State.toOwner_read (hd : d.policy ≠ .stream) (u : State) :
    u.toOwner (s.decodedAccess .read address data d) d = u.resolveRead d := by
  unfold State.toOwner
  rw [show (s.decodedAccess .read address data d).direction = .read from rfl]
  cases hp : d.policy with
  | stream => exact absurd hp hd
  | _ => rfl

/-- A refusal of the decoded access by its owner. -/
theorem State.decoded_refuse (c : Cause) : (s.decoded dir address data d).refuse c =
    (s.latched dir address data).afterRefusal (s.decodedAccess dir address data d) c :=
  State.refuse_of_pending rfl rfl c

theorem exec_of_refusedByOwner (h : s.takesAccess edge dir address d) (hs : s.settled) {c : Cause}
    (ho : (s.decoded dir address data d).toOwner (s.decodedAccess dir address data d) d =
      (s.decoded dir address data d).refuse c) :
    exec (.hostAccessStart edge true address data) s =
      .next ((s.latched dir address data).afterRefusal (s.decodedAccess dir address data d) c) := by
  rw [exec_of_takesAccess h, ho, State.decoded_refuse, (s.eased_afterRefusal dir address data _ c).conclude hs]

end Decoded

/-- The byte that a resident buffer knows (R44). -/
theorem State.knownByte_of_resident {s : State} {device : Fin 4} {a : Nat} {b : Fin 16}
    (h : s.findBuffer device (a / 64) = some b) : s.knownByte device a =
      if s.buffers[b].valid.getLsbD (a % 64) then some (s.buffers[b].data[a % 64]'(Nat.mod_lt _ (by decide))) else none := by
  rw [State.knownByte, h]

/-- A read of a known byte is answered (R44). -/
theorem State.readResident_of_known {s : State} {b : Fin 16} {d : Decode} {v : Byte}
    (h : s.findBuffer d.device (d.address / 64) = some b) (hv : s.knownByte d.device d.address = some v) :
    s.readResident b d = (s.touch b).complete v := by
  rw [State.knownByte_of_resident h] at hv
  split at hv
  · rename_i hvalid
    cases hv
    exact if_pos hvalid
  · cases hv

/-- A read of a byte that no buffer knows, of a device that cannot be reached, is refused (R45, R46, R115, R127). -/
theorem State.resolveRead_of_unreachable {s : State} {d : Decode} (hv : s.knownByte d.device d.address = none)
    (hd : s.unreachable d.device = true) : s.resolveRead d = s.refuse .device := by
  unfold State.resolveRead
  split
  · rename_i b hb
    rw [State.knownByte_of_resident hb] at hv
    split at hv
    · cases hv
    · rename_i hvalid
      rw [State.readResident, if_neg hvalid, if_pos hd]
  · rw [State.readAbsent, if_pos hd]

/-- Settles O9: a known byte completes the read, and an unknown one of a device out of reach refuses it, before the access
waits on anything; what is left eases the settled state, so nothing follows. -/
theorem readIsAnsweredAtOnce : Obligations.ReadIsAnsweredAtOnce := by
  refine ⟨fun edge address data v d b s h hs hd hb hv => ?_, fun edge address data d s h hs hd hv hstate => ?_⟩
  · have answered : (s.decoded .read address data d).resolveRead d = ((s.decoded .read address data d).touch b).complete v := by
      have found : (s.decoded .read address data d).findBuffer d.device (d.address / 64) = some b := hb
      rw [State.resolveRead, found]
      exact State.readResident_of_known found hv
    rw [exec_of_takesAccess h, State.toOwner_read hd, answered]
    generalize hu : ((s.decoded .read address data d).touch b).complete v = u
    have eased : s.Eased u :=
      hu ▸ ⟨.inl rfl, fun _ => .refl _, rfl, rfl, rfl, rfl, rfl, rfl, rfl, rfl, rfl⟩
    rw [eased.conclude hs, ← hu]
    rfl
  · have unreachable : s.unreachable d.device = true := by simpa [State.unreachable] using hstate
    exact exec_of_refusedByOwner h hs
      ((State.toOwner_read hd _).trans (State.resolveRead_of_unreachable (s := s.decoded .read address data d) hv unreachable))

end Sys2Proof.Machine
end

section
/-! PROOFS. In service, with no access that a consequence could answer, the consequences of a step make, stop and fail commits and
complete the flush, and do nothing else (R71, R72, R81, R104): what they leave of every buffer and of the other blocks. -/
namespace Sys2Proof.Machine

/-- What a start, a stop and the failure of a commit leave of a record: the bytes and the tag, and what the entry carries. -/
structure PageBuffer.CommitKeeps (x y : PageBuffer) : Prop where
  tag : y.tag = x.tag
  data : y.data = x.data
  valid : y.valid = x.valid
  region : y.commitRegion = x.commitRegion
  age : y.ageDeadline = x.ageDeadline
  attempts : y.attempts = x.attempts
  bytes : y.dirty ||| y.inFlight = x.dirty ||| x.inFlight
  entry : y.state.hasEntry = x.state.hasEntry
  unpinned : x.fill = false → x.valid = BitVec.allOnes 64 → y.fill = false

theorem PageBuffer.CommitKeeps.refl (x : PageBuffer) : x.CommitKeeps x :=
  ⟨rfl, rfl, rfl, rfl, rfl, rfl, rfl, rfl, fun h _ => h⟩

theorem PageBuffer.CommitKeeps.trans {x y z : PageBuffer} (h : x.CommitKeeps y) (h' : y.CommitKeeps z) : x.CommitKeeps z where
  tag := h'.tag.trans h.tag
  data := h'.data.trans h.data
  valid := h'.valid.trans h.valid
  region := h'.region.trans h.region
  age := h'.age.trans h.age
  attempts := h'.attempts.trans h.attempts
  bytes := h'.bytes.trans h.bytes
  entry := h'.entry.trans h.entry
  unpinned hf hv := h'.unpinned (h.unpinned hf hv) (h.valid.trans hv)

/-- `t` comes from `s` by commits that start, stop and fail, and by the end of a flush. -/
structure State.CommitsOnly (s t : State) : Prop where
  port : t.port = s.port
  recency : t.recency = s.recency
  link : t.link = s.link
  stream : t.stream = s.stream
  watches : t.watches = s.watches
  devices : t.devices = s.devices
  part : t.part = s.part
  startup : t.startup = s.startup
  settings : t.settings = s.settings
  regions : t.regions = s.regions
  management : t.management = s.management
  now : t.now = s.now
  supply : t.supply.state = s.supply.state ∧ t.supply.sagTimer = s.supply.sagTimer ∧
    t.supply.recoveryTimer = s.supply.recoveryTimer
  flags : ∀ i, s.flags.getLsbD i = true → t.flags.getLsbD i = true
  queue : Queue.unmark t.queue = Queue.unmark s.queue
  buffers : ∀ b : Fin 16, s.buffers[b].CommitKeeps t.buffers[b]
  idle : ∀ b : Fin 16, s.buffers[b].state.hasEntry = false → t.buffers[b] = s.buffers[b]
  fetches : s.part = .running → ∀ o ∈ s.requests, (∃ b, o.kind = .pageFetch b) → o ∈ t.requests

theorem State.CommitsOnly.refl (s : State) : s.CommitsOnly s where
  port := rfl
  recency := rfl
  link := rfl
  stream := rfl
  watches := rfl
  devices := rfl
  part := rfl
  startup := rfl
  settings := rfl
  regions := rfl
  management := rfl
  now := rfl
  supply := ⟨rfl, rfl, rfl⟩
  flags _ h := h
  queue := rfl
  buffers _ := .refl _
  idle _ _ := rfl
  fetches _ _ h _ := h

theorem State.CommitsOnly.trans {s t u : State} (h : s.CommitsOnly t) (h' : t.CommitsOnly u) : s.CommitsOnly u where
  port := h'.port.trans h.port
  recency := h'.recency.trans h.recency
  link := h'.link.trans h.link
  stream := h'.stream.trans h.stream
  watches := h'.watches.trans h.watches
  devices := h'.devices.trans h.devices
  part := h'.part.trans h.part
  startup := h'.startup.trans h.startup
  settings := h'.settings.trans h.settings
  regions := h'.regions.trans h.regions
  management := h'.management.trans h.management
  now := h'.now.trans h.now
  supply := by
    obtain ⟨hs, hg, hr⟩ := h.supply
    obtain ⟨hs', hg', hr'⟩ := h'.supply
    exact ⟨hs'.trans hs, hg'.trans hg, hr'.trans hr⟩
  flags i hi := h'.flags i (h.flags i hi)
  queue := h'.queue.trans h.queue
  buffers b := (h.buffers b).trans (h'.buffers b)
  idle b hb := (h'.idle b ((h.buffers b).entry.trans hb)).trans (h.idle b hb)
  fetches hp o ho hk := h'.fetches (h.part.trans hp) o (h.fetches hp o ho hk) hk

/-- A commit's operation on one buffer with an entry. -/
theorem State.CommitsOnly.of_one {s t : State} {b : Fin 16} (others : s.SameBuffersBut b t)
    (he : s.buffers[b].state.hasEntry = true) (self : s.buffers[b].CommitKeeps t.buffers[b])
    (frame : t.port = s.port ∧ t.recency = s.recency ∧ t.link = s.link ∧ t.stream = s.stream ∧ t.watches = s.watches ∧
      t.devices = s.devices ∧ t.part = s.part ∧ t.startup = s.startup ∧ t.settings = s.settings ∧ t.regions = s.regions ∧
      t.management = s.management ∧ t.now = s.now ∧ t.queue = s.queue)
    (supply : t.supply.state = s.supply.state ∧ t.supply.sagTimer = s.supply.sagTimer ∧
      t.supply.recoveryTimer = s.supply.recoveryTimer)
    (flags : ∀ i, s.flags.getLsbD i = true → t.flags.getLsbD i = true)
    (fetches : s.part = .running → ∀ o ∈ s.requests, (∃ b, o.kind = .pageFetch b) → o ∈ t.requests) :
    s.CommitsOnly t := by
  obtain ⟨port, recency, link, stream, watches, devices, part, startup, settings, regions, management, now, queue⟩ := frame
  refine ⟨port, recency, link, stream, watches, devices, part, startup, settings, regions, management, now, supply, flags,
    by rw [queue], fun b' => ?_, fun b' hb => ?_, fetches⟩
  · by_cases hb : b' = b
    · subst hb
      exact self
    · rw [others b' hb]
      exact .refl _
  · refine others b' fun h => ?_
    rw [h, he] at hb
    cases hb

/-! ### The three operations on a commit -/

theorem PageBuffer.commitKeeps_ended {x : PageBuffer} (h : x.state.hasEntry = true) {y : BufferState}
    (hy : y.hasEntry = true) : x.CommitKeeps (x.ended y) :=
  ⟨rfl, rfl, rfl, rfl, rfl, rfl, BitVec.or_zero, hy.trans h.symm, fun hf _ => hf⟩

namespace State

variable {s : State} {b : Fin 16}

theorem completeFlush_commitsOnly (s : State) : s.CommitsOnly s.completeFlush :=
  { CommitsOnly.refl s with
    flags := (State.raise_samePortMoreFlags { s with queue := Queue.unmark s.queue } .flushDone).2
    queue := by
      change Queue.unmark (Queue.unmark s.queue) = Queue.unmark s.queue
      rw [Queue.unmark, Queue.unmark, List.map_map]
      congr 1
      funext e
      cases e <;> rfl }

theorem mem_withdrawCommit {o : Operation} (ho : o ∈ s.requests) (hk : ∃ b', o.kind = .pageFetch b') :
    o ∈ (s.withdrawCommit b).requests := by
  obtain ⟨b', hk⟩ := hk
  unfold withdrawCommit
  split
  · exact ho
  · simp [withdraw, releaseSpan, hk, ho]

theorem becomeFailed_commitsOnly (he : s.buffers[b].state.hasEntry = true) : s.CommitsOnly (s.becomeFailed b) := by
  have self : (s.becomeFailed b).buffers[b] = s.buffers[b].ended .failed := by
    rw [becomeFailed_eq]
    exact buffers_setBuffer_self _ b _
  refine .of_one (s.becomeFailed_sameBuffersBut b) he (self ▸ PageBuffer.commitKeeps_ended he rfl) (by simp) (by simp)
    (s.becomeFailed_samePortMoreFlags b).2 fun _ o ho hk => ?_
  rw [becomeFailed_eq]
  exact mem_withdrawCommit ho hk

theorem endDirty_buffer (s : State) (b : Fin 16) : (s.endDirty b).buffers[b] = s.buffers[b].ended .dirty := by
  rw [endDirty_eq, buffers_setBuffer_self]

theorem stopCommit_keeps (he : s.buffers[b].state.hasEntry = true) : s.buffers[b].CommitKeeps (s.stopCommit b).buffers[b] := by
  unfold stopCommit
  dsimp only
  split
  · have cancelled : (s.cancelFetch b).buffers[b] = { s.buffers[b] with fill := false } := s.buffers_setBuffer_self b _
    have self := (s.cancelFetch b).endDirty_buffer b
    rw [cancelled] at self
    rw [self]
    exact { PageBuffer.commitKeeps_ended (x := s.buffers[b]) (y := .dirty) he rfl with unpinned := fun _ _ => rfl }
  · have self := s.endDirty_buffer b
    exact self ▸ PageBuffer.commitKeeps_ended he rfl

theorem stopCommit_commitsOnly (he : s.buffers[b].state.hasEntry = true) (hp : s.part ≠ .running) :
    s.CommitsOnly (s.stopCommit b) :=
  .of_one (s.stopCommit_sameBuffersBut b) he (stopCommit_keeps he) (by simp) (by simp) (by simp) fun h => absurd h hp

theorem startSend_keeps (s : State) (b : Fin 16) : s.buffers[b].CommitKeeps (s.startSend b).buffers[b] := by
  by_cases ht : s.buffers[b].tag = none
  · rw [startSend_of_untagged ht]
    exact .refl _
  · rw [startSend_buffer ht]
    exact ⟨rfl, rfl, rfl, rfl, rfl, rfl, by rw [PageBuffer.sending, BitVec.or_comm s.buffers[b].dirty]; exact BitVec.zero_or, rfl,
      fun hf _ => hf⟩

theorem mem_startSend {o : Operation} (ho : o ∈ s.requests) : o ∈ (s.startSend b).requests := by
  unfold startSend
  split
  · exact ho
  · exact List.mem_append_left _ ho

theorem mem_enterFill {o : Operation} (ho : o ∈ s.requests) : o ∈ (s.enterFill b).requests := by
  unfold enterFill requestFetch
  dsimp only
  split
  · exact ho
  · split
    · exact ho
    · exact List.mem_append_left _ ho

theorem startSend_commitsOnly (hc : s.buffers[b].state = .committing) : s.CommitsOnly (s.startSend b) :=
  .of_one (s.startSend_sameBuffersBut b) (hasEntry_of_committing hc) (s.startSend_keeps b) (by simp) (by simp) (by simp)
    fun _ _ ho _ => mem_startSend ho

/-- In HOLDUP the SEND start consumes a count, or stops the commit (R104). -/
theorem enterSend_commitsOnly (hc : s.buffers[b].state = .committing) : s.CommitsOnly (s.enterSend b) := by
  unfold enterSend
  split
  · rename_i hp
    split
    · exact stopCommit_commitsOnly (hasEntry_of_committing hc) (by rw [hp]; decide)
    · have spent : s.CommitsOnly { s with supply := { s.supply with count := s.supply.count - 1 } } :=
        { CommitsOnly.refl s with }
      exact spent.trans (startSend_commitsOnly hc)
  · exact startSend_commitsOnly hc

/-- A span within a wholly valid record is known, so FILL is not entered (R86). -/
theorem spanKnown_allOnes (dirty : OffsetMap) : spanKnown dirty (BitVec.allOnes 64) = true := by
  rw [spanKnown, List.all_eq_true]
  intro i hi
  rw [BitVec.getLsbD_allOnes, decide_eq_true (List.mem_range.mp hi), Bool.or_true]

theorem startChoice_commitsOnly (hc : s.buffers[b].state = .committing) : s.CommitsOnly (s.startChoice b) := by
  unfold startChoice
  split
  · exact enterSend_commitsOnly hc
  · rename_i hspan
    refine .of_one (s.enterFill_sameBuffersBut b) (hasEntry_of_committing hc) ?_ (by simp) (by simp) (by simp)
      fun _ _ ho _ => mem_enterFill ho
    rw [enterFill_buffer]
    refine ⟨rfl, rfl, rfl, rfl, rfl, rfl, rfl, rfl, fun _ hv => absurd ?_ hspan⟩
    rw [hv, spanKnown_allOnes]

theorem startCommit_commitsOnly (hd : s.buffers[b].state = .dirty) : s.CommitsOnly (s.startCommit b) := by
  have self := s.buffers_setBuffer_self b { s.buffers[b] with state := .committing }
  have entered : s.CommitsOnly (s.setBuffer b { s.buffers[b] with state := .committing }) := by
    refine .of_one (s.setBuffer_sameBuffersBut b _) (by rw [hd]; rfl) ?_ ⟨rfl, rfl, rfl, rfl, rfl, rfl, rfl, rfl, rfl, rfl, rfl, rfl, rfl⟩
      ⟨rfl, rfl, rfl⟩ (fun _ h => h) fun _ _ h _ => h
    rw [self]
    exact ⟨rfl, rfl, rfl, rfl, rfl, rfl, rfl, by rw [hd]; rfl, fun h _ => h⟩
  exact entered.trans (startChoice_commitsOnly (by rw [self]))

/-! ### The consequences of a step -/

/-- In service, with no access that waits, or one that waits on a fetch whose CLEAN buffer stands pinned. -/
structure AtRest (s : State) : Prop where
  done : s.startup.phase = .done
  access : s.waiting = none ∨ ∃ b : Fin 16, s.waiting = some (.fetch b) ∧ s.buffers[b].state = .clean ∧ s.buffers[b].fill = true

theorem AtRest.settleAccess (h : s.AtRest) : s.settleAccess = none := by
  unfold State.settleAccess
  rcases h.access with hw | ⟨b, hw, -, hf⟩
  · rw [hw]
  · rw [hw]
    exact if_pos hf

theorem AtRest.settleBufferWait (h : s.AtRest) : s.settleBufferWait = none := by
  unfold State.settleBufferWait
  rcases h.access with hw | ⟨b, hw, -, hf⟩
  · rw [hw]
    rfl
  · rw [hw]
    exact if_neg fun h => by cases h

theorem AtRest.settleStartup (h : s.AtRest) : s.settleStartup = none := by
  unfold State.settleStartup
  split
  · rfl
  · rw [h.done]

theorem AtRest.commitsOnly {t : State} (h : s.AtRest) (ht : s.consequence = some t) : s.CommitsOnly t := by
  rcases consequence_cases ht with ht | ht | ht | ht | ht | ht
  · cases h.settleAccess.symm.trans ht
  · unfold settleFlush at ht
    split at ht
    · cases ht
      exact s.completeFlush_commitsOnly
    · cases ht
  · unfold settleFill at ht
    split at ht
    · rename_i hs
      obtain ⟨b, hb, rfl⟩ := Option.map_eq_some_iff.mp ht
      have hc := (engineWaits_iff.mp (List.find?_some hb)).1
      refine stopCommit_commitsOnly (hasEntry_of_committing hc) fun hp => ?_
      rw [budgetSpent, hp] at hs
      cases hs
    · cases ht
  · unfold settleQueue at ht
    obtain ⟨b, hb, rfl⟩ := Option.map_eq_some_iff.mp ht
    have taken := List.find?_some hb
    have dirty : s.buffers[b].state = .dirty := by
      rw [Bool.or_eq_true] at taken
      rcases taken with h | h
      · obtain ⟨-, -, -, hd, -⟩ := startable_iff.mp h
        exact hd
      · obtain ⟨-, -, -, hd, -⟩ := startable_iff.mp h
        exact hd
    unfold takeEntry
    split
    · exact startCommit_commitsOnly dirty
    · exact becomeFailed_commitsOnly (by rw [dirty]; rfl)
  · cases h.settleBufferWait.symm.trans ht
  · cases h.settleStartup.symm.trans ht

theorem CommitsOnly.atRest {t : State} (h : s.CommitsOnly t) (hs : s.AtRest) : t.AtRest := by
  refine ⟨by rw [h.startup, hs.done], ?_⟩
  rw [waiting_congr h.port]
  refine hs.access.imp id fun ⟨b, hw, hc, hf⟩ => ⟨b, hw, ?_⟩
  rw [h.idle b (by rw [hc]; rfl)]
  exact ⟨hc, hf⟩

/-- What holds of a state, and is kept by the next consequence to draw, holds when they have been drawn. -/
theorem settle_consequence_induct {P : State → Prop} (h : ∀ u t, P u → u.consequence = some t → P t) (hs : P s) :
    P s.settle := by
  unfold settle
  generalize Config.settleBound = n
  induction n generalizing s with
  | zero => exact hs
  | succ n ih =>
    unfold settleFor
    split
    · exact hs
    · rename_i t ht
      exact ih (h s t hs ht)

/-- The end of a step at rest. -/
theorem AtRest.conclude (hs : s.AtRest) (before : State) : s.CommitsOnly (s.conclude before) := by
  have settled : s.CommitsOnly s.settle ∧ s.settle.AtRest := by
    refine settle_consequence_induct (P := fun t => s.CommitsOnly t ∧ t.AtRest) (fun u t ⟨hu, hr⟩ ht => ?_)
      ⟨.refl s, hs⟩
    have drawn := hr.commitsOnly ht
    exact ⟨hu.trans drawn, drawn.atRest hr⟩
  unfold State.conclude noteShort
  split
  · refine settled.1.trans { CommitsOnly.refl _ with flags := (raise_samePortMoreFlags _ .holdupShort).2 }
  · exact settled.1

end State
end Sys2Proof.Machine
end

section
/-! PROOFS. DROP_CLEAN frees the CLEAN, unpinned buffers and keeps the bytes of the others (R57): O50. -/
namespace Sys2Proof.Machine

/-- A record as DROP_CLEAN leaves it (R57). -/
def PageBuffer.dropped (x : PageBuffer) : PageBuffer :=
  if x.state = .clean ∧ x.fill = false then PageBuffer.freed else x

theorem State.dropClean_buffers (s : State) (b : Fin 16) : s.dropClean.buffers[b] = s.buffers[b].dropped := by
  have drop (u : State) (i j : Fin 16) :
      (if u.buffers[i].state = .clean ∧ u.buffers[i].fill = false then u.freeBuffer i else u).buffers[j] =
        if j = i then u.buffers[i].dropped else u.buffers[j] := by
    unfold PageBuffer.dropped
    split
    · exact u.freeBuffer_buffers i j
    · split
      · rename_i hj
        rw [hj]
      · rfl
  exact (foldl_pointwise (get := fun (u : State) (j : Fin 16) => u.buffers[j]) (g := fun _ => PageBuffer.dropped) drop
    (List.nodup_finRange 16) s b).trans (if_pos (List.mem_finRange b))

/-- The state of DROP_CLEAN before its consequences are drawn. -/
def State.cleanDropped (s : State) (x : Shadow) : State :=
  ((s.takeCommandBytes x).dropClean.commanded .done).closeTransaction

theorem exec_dropClean {s : State} {x : Shadow} (hr : s.resetHeld = false) (h : s.applies x .dropClean) :
    exec .dropClean s = .next ((s.cleanDropped x).conclude s) := by
  have applied : s.applyShadow x = (s.takeCommandBytes x).dropClean.commanded .done := by
    rw [State.applyShadow, h.2]
  have row := State.applyRow_of_applies (isKind := fun k => decide (k = .dropClean)) hr h rfl
  rw [applied] at row
  exact row

theorem State.cleanDropped_frame (s : State) (x : Shadow) : (s.cleanDropped x).port = s.port ∧
    (s.cleanDropped x).startup = s.startup ∧ (s.cleanDropped x).buffers = (s.takeCommandBytes x).dropClean.buffers ∧
    (s.cleanDropped x).management = (s.management.taken x).closed .accepted .done := by
  simp [State.cleanDropped, State.takeCommandBytes, Management.taken, Management.closed, State.commanded,
    State.closeTransaction]

/-- Settles O50: the fold frees just the CLEAN, unpinned buffers, and the commits that may follow keep FREE records as they
are and the bytes of all others. -/
theorem dropCleanFreesCleanBuffers : Obligations.DropCleanFreesCleanBuffers := by
  intro x s ⟨hr, hdone⟩ _ hw h
  obtain ⟨hport, hstartup, hbuffers, hmanagement⟩ := s.cleanDropped_frame x
  have rest : (s.cleanDropped x).AtRest := ⟨by rw [hstartup, hdone], .inl ((State.waiting_congr hport).trans hw)⟩
  have commits := rest.conclude s
  refine ⟨_, exec_dropClean hr h, commits.management.trans hmanagement, fun b => ?_⟩
  have record : (s.cleanDropped x).buffers[b] = s.buffers[b].dropped := by
    rw [hbuffers]
    exact (s.takeCommandBytes x).dropClean_buffers b
  refine ⟨fun hc hf => ?_, fun hkept => ?_⟩
  · have freed : (s.cleanDropped x).buffers[b] = PageBuffer.freed := record.trans (if_pos ⟨hc, hf⟩)
    exact (commits.idle b (by rw [freed]; rfl)).trans freed
  · have same : (s.cleanDropped x).buffers[b] = s.buffers[b] := by
      refine record.trans (if_neg fun ⟨hc, hf⟩ => ?_)
      rcases hkept with h | h
      · exact h hc
      · rw [hf] at h
        cases h
    have keeps := commits.buffers b
    rw [same] at keeps
    exact ⟨keeps.data, keeps.valid, keeps.tag⟩

end Sys2Proof.Machine
end

section
/-! PROOFS. A completed page fetch is merged into its buffer and answers the read that waits on it (R41, R47, R89, R116, R117):
O23. -/
namespace Sys2Proof.Machine

theorem State.readCompleted_frame (s : State) (l : LinkOperation) : (s.readCompleted l).link = none ∧
    (s.readCompleted l).port = s.port ∧ (s.readCompleted l).buffers = s.buffers ∧
    (s.readCompleted l).startup = s.startup ∧ (s.readCompleted l).now = max s.now l.endTime := by
  refine ⟨State.moveCounter_link _ l _, ?_, ?_, ?_, ?_⟩ <;> simp [State.readCompleted, State.freeLink]

/-- The address counter after a read that was not UNKNOWN at its end (R31, R116, R126). -/
theorem State.readCompleted_counter (s : State) (l : LinkOperation) (h : s.devices[l.operation.device].state ≠ .absent) :
    (s.readCompleted l).devices[l.operation.device].counter = if l.counterLost then none
      else some ((l.operation.start + l.operation.length) % (s.devices[l.operation.device].capacity.pages * 64)) := by
  have devices : (s.freeLink l).devices = s.devices := by simp
  unfold State.readCompleted State.moveCounter
  dsimp only
  split
  · rw [State.setDevice, vector_set_fin, if_pos rfl]
  · rw [State.setDevice, vector_set_fin, if_pos rfl, devices, Device.moveCounter, if_neg h]
    rfl

/-- The merged bytes, offset by offset (R41). -/
theorem PageBuffer.merge_data (x : PageBuffer) (fetched : PageBytes) (i : Nat) (hi : i < 64) :
    (x.merge fetched).data[i] = if x.valid.getLsbD i then x.data[i] else fetched[i] := by
  simp only [PageBuffer.merge, Vector.getElem_ofFn, Fin.getElem_fin]

/-- The buffer merged with its page, and the read that waits on it answered (R41, R47). -/
def State.fetchAnswered (s : State) (b : Fin 16) (data : PageBytes) : State :=
  let s1 := s.setBuffer b (s.buffers[b].merge data)
  match s.waiting, s.accessDecode with
  | some (.fetch b'), some d => if b' = b then s1.answerRead b d else s1
  | _, _ => s1

section Complete
variable {s : State} {b : Fin 16} (data : PageBytes)

/-- A commit in FILL enters SEND once its page is there (R89). -/
theorem State.fetchComplete_commitsOnly : (s.fetchAnswered b data).CommitsOnly (s.fetchComplete b data) := by
  change (s.fetchAnswered b data).CommitsOnly
    (if (s.fetchAnswered b data).engineWaits b then (s.fetchAnswered b data).enterSend b else s.fetchAnswered b data)
  split
  · rename_i h
    exact State.enterSend_commitsOnly (State.engineWaits_iff.mp h).1
  · exact .refl _

theorem State.fetchAnswered_of_idle (hw : s.waiting = none) :
    s.fetchAnswered b data = s.setBuffer b (s.buffers[b].merge data) := by
  rw [State.fetchAnswered, hw]

/-- A PENDING access is completed (R7). -/
theorem State.complete_of_pending {a : Access} {w : Wait} (h : s.port.access = some a) (ha : a.status = .pending w)
    (v : Byte) : s.complete v = { s with port := { s.port with
      access := some { a with status := .done .completed }
      readByte := if a.direction = .read then v else s.port.readByte } } := by
  simp [State.complete, h, ha]

theorem State.fetchAnswered_port {a : Access} {d : Decode} (ha : s.port.access = some a)
    (hwait : a.status = .pending (.fetch b)) (hread : a.direction = .read) (hd : a.decode = some d) :
    (s.fetchAnswered b data).port = { s.port with
      access := some { a with status := .done .completed }
      readByte := (s.buffers[b].merge data).data[d.address % 64]'(Nat.mod_lt _ (by decide)) } ∧
    (s.fetchAnswered b data).link = s.link ∧ (s.fetchAnswered b data).startup = s.startup := by
  have decode : s.accessDecode = some d := by rw [State.accessDecode, ha, Option.bind_some, hd]
  have answered : s.fetchAnswered b data = (s.setBuffer b (s.buffers[b].merge data)).answerRead b d := by
    rw [State.fetchAnswered, State.waiting_of_pending ha hwait, decode]
    exact if_pos rfl
  have self := s.buffers_setBuffer_self b (s.buffers[b].merge data)
  rw [answered, State.answerRead, self]
  have completed := State.complete_of_pending (s := (s.setBuffer b (s.buffers[b].merge data)).touch b) ha hwait
  refine ⟨?_, by simp, by simp⟩
  rw [completed, hread]
  rfl

end Complete

theorem exec_pageFetchComplete {s : State} {l : LinkOperation} {b : Fin 16} (hr : s.resetHeld = false)
    (h : s.runs l (.pageFetch b)) (hrequester : l.hasRequester = true) (data : PageBytes) :
    exec (.pageFetchComplete data) s = .next (((s.readCompleted l).fetchComplete b data).conclude s) := by
  obtain ⟨hl, hk⟩ := h
  simp only [exec, execPageFetchComplete, State.act_of_released hr, hl, hk, hrequester, if_true]

/-- Settles O23: the merge and the answer precede every consequence, and what follows a page fetch at rest are commits, which
leave the Port, the link, the clock and the bytes alone. -/
theorem pageFetchMergesAndAnswers : Obligations.PageFetchMergesAndAnswers := by
  refine ⟨fun data l b a d s ⟨hr, hdone⟩ h hrequester ha hread hwait hd => ⟨_, exec_pageFetchComplete hr h hrequester data, ?_⟩,
    fun data l b s ⟨hr, hdone⟩ h hrequester hw => ⟨_, exec_pageFetchComplete hr h hrequester data, ?_⟩⟩
  · obtain ⟨link, port, buffers, startup, -⟩ := s.readCompleted_frame l
    obtain ⟨uport, ulink, ustartup⟩ :=
      State.fetchAnswered_port (s := s.readCompleted l) (b := b) data (by rw [port, ha]) hwait hread hd
    have sent := State.fetchComplete_commitsOnly (s := s.readCompleted l) (b := b) data
    generalize (s.readCompleted l).fetchAnswered b data = u at uport ulink ustartup sent
    have waits : u.waiting = none := State.waiting_of_done (a := { a with status := .done .completed }) (by rw [uport]) rfl
    have rest : ((s.readCompleted l).fetchComplete b data).AtRest :=
      sent.atRest ⟨by rw [ustartup, startup, hdone], .inl waits⟩
    have commits := sent.trans (rest.conclude s)
    refine ⟨?_, ?_, ?_, ?_⟩
    · rw [commits.link, ulink, link]
    · rw [commits.port, uport]
    · rw [commits.port, uport, buffers, PageBuffer.merge_data, Vector.getElem?_eq_getElem, Vector.getElem?_eq_getElem]
      split <;> rfl
    · rw [commits.port, uport, port]
  · obtain ⟨link, port, buffers, startup, now⟩ := s.readCompleted_frame l
    have waits : (s.readCompleted l).waiting = none := (State.waiting_congr port).trans hw
    have sent := State.fetchComplete_commitsOnly (s := s.readCompleted l) (b := b) data
    rw [State.fetchAnswered_of_idle data waits, buffers] at sent
    have self := (s.readCompleted l).buffers_setBuffer_self b (s.buffers[b].merge data)
    have rest : ((s.readCompleted l).fetchComplete b data).AtRest := sent.atRest ⟨startup ▸ hdone, .inl waits⟩
    have commits := sent.trans (rest.conclude s)
    have keeps := commits.buffers b
    rw [self] at keeps
    obtain ⟨-, tag, -⟩ := State.merge_same s.buffers[b] data
    refine ⟨commits.link.trans link, fun i => ?_, ?_, ?_, ?_, fun hstate => ?_, commits.now.trans now⟩
    · rw [keeps.data]
      exact PageBuffer.merge_data _ data i i.isLt
    · rw [keeps.valid, State.merge_valid]
    · exact keeps.unpinned (State.merge_fill _ data) (State.merge_valid _ data)
    · rw [keeps.tag, tag]
    · rw [commits.devices]
      exact s.readCompleted_counter l hstate

end Sys2Proof.Machine
end

section
/-! PROOFS. An access to a page that is not resident: the allocation and fetch for a read (R39, R46), the wait for a buffer (R52,
R54), and the choice of the buffer to evict (R39): O10. -/
namespace Sys2Proof.Machine

/-! ### The buffer an allocation takes (R39) -/

theorem find?_finRange_eq_some {n : Nat} {p : Fin n → Bool} {i : Fin n} :
    (List.finRange n).find? p = some i ↔ p i = true ∧ ∀ j < i, p j = false := by
  rw [← Fin.find?_eq_find?_finRange, Fin.find?_eq_some_iff]

/-- The first element of a list that satisfies a test, by what stands before it. -/
theorem find?_eq_some_iff_takeWhile {α : Type} [DecidableEq α] {p : α → Bool} {l : List α} {a : α} :
    l.find? p = some a ↔ p a = true ∧ a ∈ l ∧ ∀ x ∈ l.takeWhile (fun x => decide (x ≠ a)), p x = false := by
  induction l with
  | nil => simp
  | cons y l ih =>
    by_cases hy : y = a
    · subst hy
      cases hp : p y with
      | true => simp [hp]
      | false =>
        have absent : l.find? p ≠ some y := fun h => by
          rw [List.find?_some h] at hp
          cases hp
        simp [hp, absent]
    · cases hp : p y <;> simp [hp, hy, Ne.symm hy, ih]

/-- A CLEAN record with its fill flag clear (R39). -/
abbrev PageBuffer.cleanUnpinned (x : PageBuffer) : Bool := decide (x.state = .clean) && !x.fill

theorem PageBuffer.cleanUnpinned_iff {x : PageBuffer} : x.cleanUnpinned = true ↔ x.state = .clean ∧ x.fill = false := by
  simp

theorem State.noFree_iff (s : State) : ((List.finRange 16).find? fun b => decide (s.buffers[b].state = .free)) = none ↔
    ∀ b : Fin 16, s.buffers[b].state ≠ .free := by
  simp

theorem State.victim_eq_some_iff (s : State) (b : Fin 16) : s.victim = some b ↔
    (s.buffers[b].state = .free ∧ ∀ b' : Fin 16, b' < b → s.buffers[b'].state ≠ .free) ∨
    ((∀ b' : Fin 16, s.buffers[b'].state ≠ .free) ∧ s.buffers[b].state = .clean ∧ s.buffers[b].fill = false ∧
      b ∈ s.recency ∧ ∀ b' ∈ (s.recency.reverse.takeWhile fun b' => decide (b' ≠ b)),
        ¬ (s.buffers[b'].state = .clean ∧ s.buffers[b'].fill = false)) := by
  have unpinned (b' : Fin 16) : s.buffers[b'].cleanUnpinned = false ↔
      ¬ (s.buffers[b'].state = .clean ∧ s.buffers[b'].fill = false) := by
    rw [← PageBuffer.cleanUnpinned_iff, Bool.not_eq_true]
  rw [State.victim, Option.or_eq_some_iff, find?_finRange_eq_some, s.noFree_iff,
    find?_eq_some_iff_takeWhile]
  simp only [decide_eq_true_eq, decide_eq_false_iff_not, unpinned, PageBuffer.cleanUnpinned_iff, List.mem_reverse, and_assoc]

theorem State.victim_eq_none_iff {s : State} (h : s.recencyGood) : s.victim = none ↔
    ∀ b : Fin 16, s.buffers[b].state ≠ .free ∧ (s.buffers[b].state = .clean → s.buffers[b].fill = true) := by
  obtain ⟨-, hr⟩ := h
  rw [State.victim, Option.or_eq_none_iff, s.noFree_iff, List.find?_eq_none]
  simp only [List.mem_reverse, Bool.and_eq_true, decide_eq_true_eq, Bool.not_eq_true', not_and, Bool.not_eq_false]
  refine ⟨fun ⟨hfree, hclean⟩ b => ⟨hfree b, hclean b ((hr b).mpr (hfree b))⟩, fun h => ⟨fun b => (h b).1, fun b _ => (h b).2⟩⟩

/-! ### A read fetches its page (R46) -/

section Absent
variable {s : State} {edge : ActiveEdge} {dir : Direction} {address : HostAddress} {data : Byte} {d : Decode} {b : Fin 16}

/-- The state in which a read waits for the page that a newly allocated buffer is to take (R46). -/
def State.fetchFor (s : State) (b : Fin 16) (d : Decode) : State :=
  ((s.allocate b { device := d.device, page := d.address / 64 }).requestFetch b).waitOn (.fetch b)

theorem State.resolveRead_of_absent (hnone : s.findBuffer d.device (d.address / 64) = none)
    (hreach : s.unreachable d.device = false) (hv : s.victim = some b) : s.resolveRead d = s.fetchFor b d := by
  rw [State.resolveRead, hnone]
  dsimp only
  rw [State.readAbsent, hreach, if_neg Bool.false_ne_true, hv]
  rfl

theorem State.fetchFor_buffer (s : State) (b : Fin 16) (d : Decode) : (s.fetchFor b d).buffers[b] =
    { PageBuffer.standingFor ⟨d.device, d.address / 64⟩ with fill := true } := by
  have allocated := s.allocate_buffers b b ⟨d.device, d.address / 64⟩
  rw [if_pos rfl] at allocated
  rw [State.fetchFor, State.waitOn_buffers, State.requestFetch_buffers, allocated, if_pos ⟨rfl, Option.some_ne_none _⟩]

theorem State.mem_fetchFor (s : State) (b : Fin 16) (d : Decode) :
    { kind := .pageFetch b, device := d.device, start := d.address / 64 * 64, length := 64 } ∈ (s.fetchFor b d).requests := by
  have allocated := s.allocate_buffers b b ⟨d.device, d.address / 64⟩
  rw [if_pos rfl] at allocated
  have requests : (s.fetchFor b d).requests =
      ((s.allocate b ⟨d.device, d.address / 64⟩).requestFetch b).requests := by simp [State.fetchFor]
  rw [requests, State.requestFetch, allocated]
  exact List.mem_append_right _ List.mem_cons_self

theorem State.fetchFor_frame (s : State) (b : Fin 16) (d : Decode) : (s.fetchFor b d).recency.head? = some b ∧
    (s.fetchFor b d).startup = s.startup ∧ (s.fetchFor b d).part = s.part := by
  refine ⟨?_, by simp [State.fetchFor], by simp [State.fetchFor]⟩
  have recency : (s.fetchFor b d).recency = (s.allocate b ⟨d.device, d.address / 64⟩).recency := by simp [State.fetchFor]
  rw [recency]
  rfl

/-- A PENDING access waits on something else from now on. -/
theorem State.waitOn_of_access {a : Access} (h : s.port.access = some a) (w : Wait) :
    s.waitOn w = s.setAccess (some { a with status := .pending w }) := by
  rw [State.waitOn, h]

theorem State.fetchFor_port {a : Access} (h : s.port.access = some a) (b : Fin 16) (d : Decode) :
    (s.fetchFor b d).port = { s.port with access := some { a with status := .pending (.fetch b) } } := by
  have port : ((s.allocate b ⟨d.device, d.address / 64⟩).requestFetch b).port = s.port := by simp
  rw [State.fetchFor, State.waitOn_of_access (a := a) (by rw [port, h]), State.setAccess, port]

theorem exec_of_readAbsent (h : s.takesAccess edge .read address d) (hd : d.policy ≠ .stream)
    (hnone : s.findBuffer d.device (d.address / 64) = none) (hreach : s.unreachable d.device = false)
    (hv : s.victim = some b) (data : Byte) : exec (.hostAccessStart edge true address data) s =
      .next (((s.decoded .read address data d).fetchFor b d).conclude s) := by
  rw [exec_of_takesAccess h, State.toOwner_read hd,
    State.resolveRead_of_absent (s := s.decoded .read address data d) hnone hreach hv]

/-! ### The wait for a buffer (R52, R54) -/

/-- No watch on the address: nothing is evaluated before a write (R150). -/
theorem State.evaluateWatches_of_unwatched (h : s.unwatched address) (v : Byte) : s.evaluateWatches address v = s := by
  refine if_neg fun hany => ?_
  obtain ⟨n, -, hn⟩ := List.any_eq_true.mp hany
  rw [h n] at hn
  cases hn

theorem State.toOwner_write (hd : d.policy = .writeBack) (h : s.unwatched address) :
    (s.decoded .write address data d).toOwner (s.decodedAccess .write address data d) d =
      (s.decoded .write address data d).checkedWrite address d data := by
  have latch : (s.decoded .write address data d).port.writeLatch = data := rfl
  unfold State.toOwner
  rw [show (s.decodedAccess .write address data d).direction = .write from rfl, hd]
  dsimp only
  rw [latch, State.writePath]
  congr 1
  exact State.evaluateWatches_of_unwatched (s := s.decoded .write address data d) h data

theorem State.toOwner_of_noVictim (hd : d.policy = .writeBack) (hw : s.unwatched address)
    (hnone : s.findBuffer d.device (d.address / 64) = none) (hreach : dir = .read → s.unreachable d.device = false)
    (hv : s.victim = none) : (s.decoded dir address data d).toOwner (s.decodedAccess dir address data d) d =
      (s.decoded dir address data d).waitForBuffer := by
  have found : (s.decoded dir address data d).findBuffer d.device (d.address / 64) = none := hnone
  have victim : (s.decoded dir address data d).victim = none := hv
  cases dir with
  | read =>
    have reach : (s.decoded .read address data d).unreachable d.device = false := hreach rfl
    rw [State.toOwner_read (by rw [hd]; decide), State.resolveRead, found]
    dsimp only
    rw [State.readAbsent, reach, if_neg Bool.false_ne_true, victim]
  | write =>
    rw [State.toOwner_write hd hw, State.checkedWrite, found]
    dsimp only
    rw [State.resolveWrite, found]
    dsimp only
    rw [victim]

/-- The NO_BUFFER test, buffer by buffer, where none is FREE, CLEAN or COMMITTING (R54). -/
theorem State.noBufferTest_iff : s.noBufferTest = true ↔
    ∀ b : Fin 16, s.buffers[b].state = .failed ∨ (s.buffers[b].state = .dirty ∧ s.blocked b = true) := by
  rw [State.noBufferTest, List.all_eq_true]
  refine ⟨fun h b => ?_, fun h b _ => ?_⟩
  · have hb := h b (List.mem_finRange b)
    cases hs : s.buffers[b].state <;> rw [hs] at hb
    case failed => exact .inl rfl
    case dirty => exact .inr ⟨rfl, hb⟩
    all_goals cases hb
  · rcases h b with hb | ⟨hb, hblocked⟩
    · rw [hb]
    · rw [hb]
      exact hblocked

theorem State.settleFlush_eq_none_iff : s.settleFlush = none ↔ s.flushComplete = false := by
  simp [State.settleFlush]

theorem State.settleFill_eq_none_iff :
    s.settleFill = none ↔ (s.budgetSpent = true → ∀ b : Fin 16, s.engineWaits b = false) := by
  simp [State.settleFill]

theorem State.settleQueue_eq_none_iff : s.settleQueue = none ↔
    ∀ b ∈ Queue.frontBuffers s.queue, (s.eligible b || s.meetsButForDevice b) = false := by
  simp [State.settleQueue]

/-- A settled state in service stays settled with another Port and other flags, where the new access has nothing to draw. -/
theorem State.settled_of_access (hs : s.settled) (hdone : s.startup.phase = .done) {p : Port} {f : BitVec 16}
    (ha : State.settleAccess { s with port := p, flags := f } = none)
    (hb : State.settleBufferWait { s with port := p, flags := f } = none) :
    State.settled { s with port := p, flags := f } := by
  obtain ⟨-, hflush, hfill, hqueue, -, -⟩ := State.settled_iff.mp hs
  refine State.settled_iff.mpr ⟨ha, ?_, ?_, ?_, hb, ?_⟩
  · exact State.settleFlush_eq_none_iff.mpr (State.settleFlush_eq_none_iff.mp hflush :)
  · exact State.settleFill_eq_none_iff.mpr (State.settleFill_eq_none_iff.mp hfill :)
  · exact State.settleQueue_eq_none_iff.mpr (State.settleQueue_eq_none_iff.mp hqueue :)
  · unfold State.settleStartup
    split
    · rfl
    · rw [hdone]

/-- An access that no buffer is evictable for, at its active edge (R52, R54). -/
theorem State.waitForBuffer_of_decoded : (s.decoded dir address data d).waitForBuffer =
    if s.noBufferTest then
      { s.latched dir address data with flags := s.flags ||| EventFlag.pressure.mask }.afterRefusal
        (s.decodedAccess dir address data d) .noBuffer
    else
      ({ s.latched dir address data with flags := s.flags ||| EventFlag.pressure.mask }).setAccess
        (some { s.decodedAccess dir address data d with status := .pending .buffer }) := by
  have test : ((s.decoded dir address data d).raise .pressure).noBufferTest = s.noBufferTest := rfl
  rw [State.waitForBuffer, test]
  split
  · exact State.refuse_of_pending rfl rfl .noBuffer
  · rfl

theorem exec_of_noVictim (h : s.takesAccess edge dir address d) (hs : s.settled) (hd : d.policy = .writeBack)
    (hw : s.unwatched address) (hnone : s.findBuffer d.device (d.address / 64) = none)
    (hreach : dir = .read → s.unreachable d.device = false) (hv : s.victim = none) :
    exec (.hostAccessStart edge true address data) s = .next (s.decoded dir address data d).waitForBuffer := by
  rw [exec_of_takesAccess h, State.toOwner_of_noVictim hd hw hnone hreach hv, State.waitForBuffer_of_decoded]
  obtain ⟨⟨-, hdone⟩, -⟩ := h
  congr 1
  split
  · exact State.Eased.conclude ⟨.inl rfl, fun _ => .refl _, rfl, rfl, rfl, rfl, rfl, rfl, rfl, rfl, rfl⟩ hs
  · rename_i htest
    have noVictim : ¬ s.victim.isSome = true := by
      rw [hv]
      exact Bool.false_ne_true
    have waits : State.settleBufferWait (({ s.latched dir address data with
        flags := s.flags ||| EventFlag.pressure.mask }).setAccess
          (some { s.decodedAccess dir address data d with status := .pending .buffer })) = none :=
      (if_pos rfl).trans ((if_neg noVictim).trans (if_neg htest))
    refine State.conclude_of_settled (State.settled_of_access hs hdone rfl waits) ?_
    exact Bool.eq_false_or_eq_true _ |>.symm
end Absent

/-- Settles O10: the allocated buffer is CLEAN and pinned, so the commits that may follow leave it, its fetch and the waiting
read alone; a wait for a buffer and its refusal leave a settled state settled. -/
theorem readOfAbsentPageFetches : Obligations.ReadOfAbsentPageFetches := by
  refine ⟨fun edge address data d b s h _ hd hnone hreach hv => ⟨_, exec_of_readAbsent h hd hnone hreach hv data, ?_⟩,
    fun edge dir address data d s h hs hd hw hnone hreach hv => ?_,
    fun s => ⟨s.victim_eq_some_iff, fun hr => State.victim_eq_none_iff hr⟩⟩
  · obtain ⟨⟨-, hdone⟩, hpart, -⟩ := h
    have port := State.fetchFor_port (s := s.decoded .read address data d) rfl b d
    have buffer := (s.decoded .read address data d).fetchFor_buffer b d
    have member := (s.decoded .read address data d).mem_fetchFor b d
    obtain ⟨recency, startup, part⟩ := (s.decoded .read address data d).fetchFor_frame b d
    generalize (s.decoded .read address data d).fetchFor b d = u at port buffer member recency startup part
    have waits : u.waiting = some (.fetch b) :=
      State.waiting_of_pending (a := { s.decodedAccess .read address data d with status := .pending (.fetch b) })
        (by rw [port]) rfl
    have commits := State.AtRest.conclude (s := u) ⟨startup ▸ hdone, .inr ⟨b, waits, by rw [buffer], by rw [buffer]⟩⟩ s
    have access : (u.conclude s).port.access =
        some { s.decodedAccess .read address data d with status := .pending (.fetch b) } := by rw [commits.port, port]
    refine ⟨access, by rw [State.hwaitLow, access], by rw [commits.port, port]; rfl, by rw [commits.recency, recency], ?_,
      commits.fetches (part.trans hpart) _ member ⟨b, rfl⟩⟩
    rw [commits.idle b (by rw [buffer]; rfl), buffer]
  · rw [exec_of_noVictim h hs hd hw hnone hreach hv, State.waitForBuffer_of_decoded]
    exact congrArg _ (if_congr State.noBufferTest_iff rfl rfl)

end Sys2Proof.Machine
end

section
/-! PROOFS. A WRITE_BACK write is applied at once to its buffer, resident or newly allocated (R49, R50, R51, R56, R62): O11. -/
namespace Sys2Proof.Machine

/-! ### The queue under marks -/

theorem QueueEntry.isFor_unmark (b : Fin 16) (e : QueueEntry) : e.unmark.isFor b = e.isFor b := by
  cases e <;> rfl

/-- The entries of a queue do not depend on its marks. -/
theorem Queue.hasEntry_congr {q q' : List QueueEntry} (h : Queue.unmark q' = Queue.unmark q) (b : Fin 16) :
    Queue.hasEntry q' b = Queue.hasEntry q b := by
  have unmarked (q : List QueueEntry) : Queue.hasEntry (Queue.unmark q) b = Queue.hasEntry q b := by
    simp [Queue.hasEntry, Queue.unmark, List.any_map, Function.comp_def, QueueEntry.isFor_unmark]
  rw [← unmarked q', h, unmarked]

theorem Queue.getLast?_of_unmark {q q' : List QueueEntry} (h : Queue.unmark q' = Queue.unmark q) {b : Fin 16}
    {aged push : Bool} (hq : q.getLast? = some (.buffer b aged push)) : q'.getLast? = some (.buffer b aged push) := by
  have last : (q'.getLast?).map QueueEntry.unmark = some (.buffer b aged push) := by
    rw [← List.getLast?_map]
    change (Queue.unmark q').getLast? = _
    rw [h, Queue.unmark, List.getLast?_map, hq]
    rfl
  obtain ⟨e, he, hu⟩ := Option.map_eq_some_iff.mp last
  rw [he]
  cases e with
  | buffer b' aged' push' => exact congrArg some hu
  | marker f => cases hu

/-! ### The place of a write byte (R49, R62) -/

/-- The offset of a decoded address in its page. -/
abbrev Decode.offset (d : Decode) : Fin 64 := ⟨d.address % 64, Nat.mod_lt _ (by decide)⟩

theorem State.placeByte_buffer (s : State) (b : Fin 16) (d : Decode) (v : Byte) : (s.placeByte b d v).buffers[b] =
    if s.buffers[b].state = .clean then s.buffers[b].dirtied d.offset v d.region (s.ageDeadlineFor d.region)
    else s.buffers[b].write d.offset v := by
  unfold State.placeByte
  dsimp only
  split <;> exact s.buffers_setBuffer_self b _

theorem State.placeByte_queue (s : State) (b : Fin 16) (d : Decode) (v : Byte) : (s.placeByte b d v).queue =
    if s.buffers[b].state = .clean then Queue.append s.queue b else s.queue := by
  unfold State.placeByte
  dsimp only
  split <;> rfl

theorem State.placeByte_recency (s : State) (b : Fin 16) (d : Decode) (v : Byte) :
    (s.placeByte b d v).recency.head? = some b := by
  unfold State.placeByte
  dsimp only
  split <;> rfl

/-- The record of a buffer that takes a host byte at an offset (R49). -/
theorem PageBuffer.write_spec (x : PageBuffer) (o : Fin 64) (v : Byte) : (x.write o v).data[o.val]? = some v ∧
    (∀ i, i ≠ o.val → (x.write o v).data[i]? = x.data[i]?) ∧ (x.write o v).valid.getLsbD o.val = true ∧
    ((x.write o v).dirty ||| (x.write o v).inFlight).getLsbD o.val = true := by
  refine ⟨?_, fun i hi => ?_, ?_, ?_⟩ <;> simp [PageBuffer.write, offsetBit, Vector.getElem?_set]
  exact fun h => absurd h.symm hi

/-! ### What follows the placing of the byte (R51, R56) -/

theorem State.completeWatches_of_unwatched {s : State} {address : HostAddress} (h : s.unwatched address) (v : Byte)
    (b : Fin 16) : s.completeWatches address v b = s :=
  foldl_invariant (P := fun u => u = s) rfl fun u n hu => by
    subst hu
    rw [State.completeWatch, h n]
    rfl

/-- The stream's guarded range, in words of the spec (R56, R143). -/
theorem State.guards_iff (s : State) (device : Fin 4) (address : Nat) :
    s.stream.guards device address = true ↔ s.inGuardedRange device address := by
  unfold Stream.guards
  cases hc : s.stream.context with
  | none => simp [State.inGuardedRange, hc]
  | some c => cases hb : s.stream.burst <;> simp [State.inGuardedRange, hc, hb, Burst.covers]

theorem State.finishWrite_of_writeBack {s : State} {address : HostAddress} {d : Decode} (h : s.unwatched address)
    (hd : d.policy = .writeBack) (b : Fin 16) (v : Byte) :
    s.finishWrite b address d v = (s.streamWritten d.device d.address).complete 0 := by
  rw [State.finishWrite, State.completeWatches_of_unwatched h]
  exact if_neg (by rw [hd]; decide)

/-! ### The buffer a write goes to -/

theorem State.coherent.hasEntry {s : State} (hs : s.coherent) (b : Fin 16) :
    Queue.hasEntry s.queue b = s.buffers[b].state.hasEntry := by
  have count := (hs.but b).places.count
  cases he : s.buffers[b].state.hasEntry with
  | false =>
    rw [he] at count
    exact Queue.hasEntry_eq_false.mpr count
  | true =>
    rw [he, if_pos rfl] at count
    by_contra h
    rw [Queue.hasEntry_eq_false.mp (Bool.eq_false_iff.mpr h)] at count
    cases count

/-- `w` is `s` with `b` standing for the page of `d`: as it stood, or allocated for it (R39, R49). -/
structure State.Targets (s : State) (b : Fin 16) (d : Decode) (w : State) : Prop where
  port : w.port = s.port
  startup : w.startup = s.startup
  stream : w.stream = s.stream
  watches : w.watches = s.watches
  regions : w.regions = s.regions
  now : w.now = s.now
  queue : w.queue = s.queue
  used : w.buffers[b].state ≠ .free
  tag : w.buffers[b].tag = some ⟨d.device, d.address / 64⟩
  entry : Queue.hasEntry s.queue b = w.buffers[b].state.hasEntry
  others : s.SameBuffersBut b w
  resident : s.findBuffer d.device (d.address / 64) = some b ∨ Queue.hasEntry s.queue b = true → w.buffers[b] = s.buffers[b]

theorem State.targets_resident {s : State} {b : Fin 16} {d : Decode} (hs : s.coherent)
    (h : s.findBuffer d.device (d.address / 64) = some b) : s.Targets b d s := by
  obtain ⟨used, tag⟩ := State.findBuffer_eq_some h
  exact ⟨rfl, rfl, rfl, rfl, rfl, rfl, rfl, used, tag, hs.hasEntry b, .of_eq rfl, fun _ => rfl⟩

/-- The buffer that an allocation takes has no entry (R34, R39). -/
theorem State.victim_hasEntry {s : State} {b : Fin 16} (h : s.victim = some b) : s.buffers[b].state.hasEntry = false := by
  rcases (s.victim_eq_some_iff b).mp h with ⟨hfree, -⟩ | ⟨-, hclean, -⟩
  · rw [hfree]
    rfl
  · rw [hclean]
    rfl

theorem State.allocate_queue {s : State} {b : Fin 16} (g : Tag) (h : Queue.hasEntry s.queue b = false) :
    (s.allocate b g).queue = s.queue := by
  have freed : (s.freeBuffer b).queue = s.queue := by
    rw [State.freeBuffer_queue, h]
    rfl
  unfold State.allocate
  dsimp only
  split
  · rfl
  · exact freed

theorem State.targets_allocated {s : State} {b : Fin 16} {d : Decode} (hs : s.coherent)
    (hnone : s.findBuffer d.device (d.address / 64) = none) (hv : s.victim = some b) :
    s.Targets b d (s.allocate b ⟨d.device, d.address / 64⟩) := by
  have unentered : Queue.hasEntry s.queue b = false := (hs.hasEntry b).trans (State.victim_hasEntry hv)
  have self := s.allocate_buffers b b ⟨d.device, d.address / 64⟩
  rw [if_pos rfl] at self
  refine ⟨by simp, by simp, by simp, by simp, by simp, by simp, State.allocate_queue _ unentered, ?_, ?_, ?_,
    s.allocate_sameBuffersBut b _, fun h => ?_⟩
  · rw [self]
    exact nofun
  · rw [self]
  · rw [unentered, self]
    rfl
  · rcases h with h | h
    · cases hnone.symm.trans h
    · cases unentered.symm.trans h

/-- The byte placed in the buffer and the access completed, before any consequence (R49, R51). -/
def State.written (w : State) (b : Fin 16) (d : Decode) (v : Byte) : State :=
  ((w.placeByte b d v).streamWritten d.device d.address).complete 0

section Write
variable {s w : State} {edge : ActiveEdge} {address : HostAddress} {data : Byte} {d : Decode} {b : Fin 16}

theorem State.written_frame (w : State) (b : Fin 16) (d : Decode) (v : Byte) :
    (w.written b d v).buffers = (w.placeByte b d v).buffers ∧ (w.written b d v).queue = (w.placeByte b d v).queue ∧
    (w.written b d v).recency = (w.placeByte b d v).recency ∧ (w.written b d v).startup = w.startup := by
  refine ⟨?_, ?_, ?_, ?_⟩ <;> simp [State.written]

theorem State.written_port {a : Access} {x : Wait} (h : w.port.access = some a) (ha : a.status = .pending x)
    (hwrite : a.direction = .write) (b : Fin 16) (d : Decode) (v : Byte) :
    (w.written b d v).port = { w.port with access := some { a with status := .done .completed } } := by
  have port : ((w.placeByte b d v).streamWritten d.device d.address).port = w.port := by simp
  rw [State.written, State.complete_of_pending (a := a) (by rw [port, h]) ha, hwrite, port]
  rfl

/-- The stream as an applied write leaves it (R56, R143). -/
theorem State.written_stream (w : State) (b : Fin 16) (d : Decode) (v : Byte) : (w.written b d v).stream =
    if w.stream.guards d.device d.address then w.stream.spoil else w.stream := by
  have stream : (w.placeByte b d v).stream = w.stream := by simp
  have same : (w.written b d v).stream = ((w.placeByte b d v).streamWritten d.device d.address).stream := by
    simp [State.written]
  rw [same, State.streamWritten, stream]
  split
  · rfl
  · exact stream

/-- The path of a WRITE_BACK write that no watch looks at, to a buffer that may take it (R49, R75). -/
theorem exec_of_written (h : s.takesAccess edge .write address d) (hs : s.coherent) (hd : d.policy = .writeBack)
    (hw : s.unwatched address)
    (hb : (s.findBuffer d.device (d.address / 64) = some b ∧ Queue.markerBehind s.queue b = false) ∨
      (s.findBuffer d.device (d.address / 64) = none ∧ s.victim = some b)) (data : Byte) :
    ∃ w, (s.decoded .write address data d).Targets b d w ∧
      exec (.hostAccessStart edge true address data) s = .next ((w.written b d data).conclude s) := by
  have hu : (s.decoded .write address data d).coherent :=
    State.SamePool.coherent (.of_frame ⟨rfl, rfl, rfl, rfl, rfl⟩) hs
  have unwatched : (s.decoded .write address data d).unwatched address := hw
  rw [exec_of_takesAccess h, State.toOwner_write hd hw]
  generalize hdec : s.decoded .write address data d = u at hu unwatched
  have found : u.findBuffer d.device (d.address / 64) = s.findBuffer d.device (d.address / 64) := hdec ▸ rfl
  have victim : u.victim = s.victim := hdec ▸ rfl
  have queue : u.queue = s.queue := hdec ▸ rfl
  have finish (w : State) (hwatches : w.watches = u.watches) :
      (w.placeByte b d data).finishWrite b address d data = w.written b d data :=
    State.finishWrite_of_writeBack (fun n => by
      have watches : (w.placeByte b d data).watches = u.watches := by simp [hwatches]
      rw [watches]
      exact unwatched n) hd b data
  rcases hb with ⟨hfound, hmarker⟩ | ⟨hnone, hv⟩
  · rw [← found] at hfound
    refine ⟨u, State.targets_resident hu hfound, ?_⟩
    rw [State.checkedWrite, hfound]
    dsimp only
    rw [queue, hmarker, Bool.and_false, if_neg Bool.false_ne_true, State.resolveWrite, hfound]
    dsimp only
    rw [finish u rfl]
  · rw [← found] at hnone
    rw [← victim] at hv
    have target := State.targets_allocated hu hnone hv
    refine ⟨_, target, ?_⟩
    rw [State.checkedWrite, hnone]
    dsimp only
    rw [State.resolveWrite, hnone]
    dsimp only
    rw [hv]
    dsimp only
    rw [finish _ target.watches]

/-- The record of the buffer that has taken the byte: what R49 says of it, and R62 where it is its first. -/
theorem State.Targets.record (h : s.Targets b d w) (v : Byte) :
    (w.written b d v).buffers[b].tag = some ⟨d.device, d.address / 64⟩ ∧
    (w.written b d v).buffers[b].data = (w.buffers[b].write d.offset v).data ∧
    (w.written b d v).buffers[b].valid = (w.buffers[b].write d.offset v).valid ∧
    (w.written b d v).buffers[b].dirty ||| (w.written b d v).buffers[b].inFlight =
      (w.buffers[b].write d.offset v).dirty ||| (w.buffers[b].write d.offset v).inFlight := by
  obtain ⟨buffers, -⟩ := w.written_frame b d v
  rw [buffers, w.placeByte_buffer b d v]
  split <;> exact ⟨h.tag, rfl, rfl, rfl⟩

/-- The first write of a CLEAN buffer brings its entry (R62, R23). -/
theorem State.Targets.entered (h : s.Targets b d w) (he : Queue.hasEntry s.queue b = false) (v : Byte) :
    (w.written b d v).queue = Queue.append s.queue b ∧
    (w.written b d v).buffers[b].commitRegion = some d.region ∧ (w.written b d v).buffers[b].attempts = 0 ∧
    (w.written b d v).buffers[b].ageDeadline = s.ageDeadlineFor d.region := by
  have clean : w.buffers[b].state = .clean := by
    have entry := h.entry.symm.trans he
    cases hst : w.buffers[b].state <;> rw [hst] at entry
    case free => exact absurd hst h.used
    all_goals cases entry
  obtain ⟨buffers, queue, -⟩ := w.written_frame b d v
  have age : w.ageDeadlineFor d.region = s.ageDeadlineFor d.region := by
    rw [State.ageDeadlineFor, State.ageDeadlineFor, h.regions, h.now]
  rw [queue, buffers, w.placeByte_buffer b d v, w.placeByte_queue b d v, if_pos clean, if_pos clean, h.queue, age]
  exact ⟨rfl, rfl, rfl, rfl⟩

/-- A write to a buffer with an entry leaves what the entry carries (R62). -/
theorem State.Targets.kept (h : s.Targets b d w) (he : Queue.hasEntry s.queue b = true) (v : Byte) :
    (w.written b d v).queue = s.queue ∧ (w.written b d v).buffers[b].commitRegion = s.buffers[b].commitRegion ∧
    (w.written b d v).buffers[b].attempts = s.buffers[b].attempts ∧
    (w.written b d v).buffers[b].ageDeadline = s.buffers[b].ageDeadline := by
  have dirty : w.buffers[b].state ≠ .clean := fun hclean => by
    have entry := h.entry.symm.trans he
    rw [hclean] at entry
    cases entry
  obtain ⟨buffers, queue, -⟩ := w.written_frame b d v
  rw [queue, buffers, w.placeByte_buffer b d v, w.placeByte_queue b d v, if_neg dirty, if_neg dirty, h.queue,
    h.resident (.inr he)]
  exact ⟨rfl, rfl, rfl, rfl⟩

theorem State.Targets.hasEntry (h : s.Targets b d w) (v : Byte) : Queue.hasEntry (w.written b d v).queue b = true := by
  cases he : Queue.hasEntry s.queue b with
  | true => rw [(h.kept he v).1, he]
  | false =>
    rw [(h.entered he v).1]
    simp [Queue.hasEntry, Queue.append]

end Write

/-- Settles O11: the byte is placed and the access completed before any consequence, and the commits that may follow keep
tag, bytes and what the entry carries. -/
theorem writeBackWriteIsApplied : Obligations.WriteBackWriteIsApplied := by
  intro edge address data d b s h hs hd hw hb
  obtain ⟨w, target, step⟩ := exec_of_written h hs hd hw hb data
  obtain ⟨⟨-, hdone⟩, -⟩ := h
  refine ⟨_, step, ?_⟩
  have access : w.port.access = some (s.decodedAccess .write address data d) := by rw [target.port]; rfl
  have port := State.written_port access rfl rfl b d data
  obtain ⟨buffers, queue, recency, startup⟩ := w.written_frame b d data
  have rest : (w.written b d data).AtRest := ⟨by rw [startup, target.startup]; exact hdone,
    .inl (State.waiting_of_done (a := { s.decodedAccess .write address data d with status := .done .completed })
      (by rw [port]) rfl)⟩
  have commits := rest.conclude s
  have keeps := commits.buffers b
  obtain ⟨tag, bytes, valid, pending⟩ := target.record data
  obtain ⟨hbyte, hothers, hvalid, hpending⟩ := w.buffers[b].write_spec d.offset data
  have stream := (commits.stream.trans (w.written_stream b d data)).trans (by rw [target.stream])
  have hs0 : (s.decoded .write address data d).stream = s.stream := rfl
  refine ⟨?_, ?_, ?_, ?_, ?_, ?_, ?_, ?_, fun hfound i hi => ?_, fun b' hb' => ?_, fun hg => ?_, fun hg => ?_, fun he => ?_,
    fun he => ?_⟩
  · rw [commits.port, port]
  · rw [commits.port, port, target.port]
    rfl
  · rw [commits.recency, recency, w.placeByte_recency]
  · rw [Queue.hasEntry_congr commits.queue, target.hasEntry]
  · rw [keeps.tag, tag]
  · rw [keeps.data, bytes]
    exact hbyte
  · rw [keeps.valid, valid]
    exact hvalid
  · rw [keeps.bytes, pending]
    exact hpending
  · rw [keeps.data, bytes, hothers i hi, target.resident (.inl hfound)]
    rfl
  · rw [(commits.buffers b').data, buffers, w.placeByte_sameBuffersBut b d data b' hb', target.others b' hb']
    rfl
  · rw [stream, hs0, if_pos ((s.guards_iff _ _).mpr hg)]
    rfl
  · rw [stream, hs0, if_neg fun h => hg ((s.guards_iff _ _).mp h)]
  · obtain ⟨hq, hregion, hattempts, hage⟩ := target.entered he data
    refine ⟨Queue.getLast?_of_unmark commits.queue ?_, by rw [keeps.region, hregion], by rw [keeps.attempts, hattempts], ?_⟩
    · rw [hq, Queue.append, List.getLast?_append]
      rfl
    · rw [keeps.age, hage]
      rfl
  · obtain ⟨hq, hregion, hattempts, hage⟩ := target.kept he data
    refine ⟨?_, by rw [keeps.region, hregion]; rfl, by rw [keeps.attempts, hattempts]; rfl, by rw [keeps.age, hage]; rfl⟩
    rw [commits.queue, hq]
    rfl

end Sys2Proof.Machine
end

section
/-! PROOFS. The entries of the management space read as the formats of 12 section 12.4 say, and region, watch and settings bytes
read back (R58, R59, R174, R191): O52. -/
namespace Sys2Proof.Machine

/-! ### Fields of a byte -/

/-- A byte with a field above bit `i` takes a number below it as its low bits. -/
theorem toNat_or_byte {x : Byte} {a n : Nat} (i : Nat) (hx : x.toNat = 2 ^ i * a) (hn : n < 2 ^ i) (hi : i ≤ 8) :
    (x ||| byte n).toNat = 2 ^ i * a + n := by
  have small : n < 256 := hn.trans_le (Nat.pow_le_pow_right (by decide) hi)
  rw [BitVec.toNat_or, hx, byte_toNat, Nat.mod_eq_of_lt small, Nat.two_pow_add_eq_or_of_lt hn]

theorem bitAt_toNat (v : Bool) {i : Nat} (hi : i < 8) : (bitAt v i).toNat = 2 ^ i * v.toNat := by
  have small : 2 ^ i < 256 := Nat.pow_lt_pow_right (by decide) hi
  cases v with
  | false => rfl
  | true => simpa [bitAt] using small

theorem byte_toNat_of_lt {n : Nat} (h : n < 256) : (byte n).toNat = n := by rw [byte_toNat, Nat.mod_eq_of_lt h]

/-- A flag in bit 7 above a number. -/
theorem flag_or_byte (v : Bool) {n : Nat} (h : n < 128) : (bitAt v 7 ||| byte n).toNat = v.toNat * 128 + n := by
  rw [toNat_or_byte 7 (bitAt_toNat v (by decide)) h (by decide)]
  omega

theorem byte_or_byte {a n : Nat} (i : Nat) (ha : 2 ^ i * a < 256) (hn : n < 2 ^ i) (hi : i ≤ 8) :
    (byte (a * 2 ^ i) ||| byte n).toNat = a * 2 ^ i + n := by
  rw [Nat.mul_comm a, toNat_or_byte i (byte_toNat_of_lt ha) hn hi]

/-! ### The bytes of an entry (R174) -/

theorem State.spaceByte_of_entry (s : State) (e : Fin 32) (i : Fin 8) :
    s.spaceByte (BitVec.ofNat 8 (e.val * 8 + i.val)) = (s.entryBytes e)[i] := by
  have entry : entryOf (BitVec.ofNat 8 (e.val * 8 + i.val)) = e := by
    apply Fin.ext
    simp only [entryOf, BitVec.toNat_ofNat]
    omega
  have offset : offsetOf (BitVec.ofNat 8 (e.val * 8 + i.val)) = i := by
    apply Fin.ext
    simp only [offsetOf, BitVec.toNat_ofNat]
    omega
  unfold State.spaceByte
  simp only [entry, offset]

theorem State.entryReads_iff (s : State) (e : Fin 32) (numbers : List Nat) :
    s.entryReads e.val numbers ↔ (List.finRange 8).map (fun i => (s.entryBytes e)[i].toNat) = numbers := by
  have range : List.range 8 = (List.finRange 8).map Fin.val := rfl
  rw [State.entryReads, range, List.map_map]
  simp only [Function.comp_def, s.spaceByte_of_entry e]

/-- An entry whose eight bytes are known. -/
theorem State.entryReads_of_bytes {s : State} {e : Fin 32} {v : Vector Byte 8} (h : s.entryBytes e = v)
    {n0 n1 n2 n3 n4 n5 n6 n7 : Nat} (h0 : v[0].toNat = n0) (h1 : v[1].toNat = n1) (h2 : v[2].toNat = n2)
    (h3 : v[3].toNat = n3) (h4 : v[4].toNat = n4) (h5 : v[5].toNat = n5) (h6 : v[6].toNat = n6) (h7 : v[7].toNat = n7) :
    s.entryReads e.val [n0, n1, n2, n3, n4, n5, n6, n7] := by
  rw [s.entryReads_iff, h, ← h0, ← h1, ← h2, ← h3, ← h4, ← h5, ← h6, ← h7]
  rfl

/-! ### Region, watch and settings entries -/

theorem State.regionEntry_reads (n : Fin 8) (s : State) (h : s.regions[n].inRange) : s.entryReads n.val
    [s.regions[n].enabled.toNat * 128 + s.regions[n].hostBase / 256, s.regions[n].hostBase % 256,
      s.regions[n].pageCount / 256, s.regions[n].pageCount % 256,
      s.regions[n].device.val * 64 + s.regions[n].deviceBase / 256, s.regions[n].deviceBase % 256,
      s.regions[n].policy.code * 16 + s.regions[n].wait, s.regions[n].verify.toNat * 128 + s.regions[n].ageCode] := by
  have entry : s.entryBytes ⟨n.val, by omega⟩ = s.regions[n].toBytes := by simp [State.entryBytes]
  generalize s.regions[n] = r at h entry
  obtain ⟨hhost, hcount, hcount', hbase, hwait, hage⟩ := h
  have policy : 2 ^ 4 * r.policy.code < 256 := by cases r.policy <;> decide
  exact State.entryReads_of_bytes entry (flag_or_byte _ (by omega)) (byte_toNat _) (byte_toNat_of_lt (by omega))
    (byte_toNat _) (byte_or_byte 6 (by omega) (by omega) (by decide)) (byte_toNat _)
    (byte_or_byte 4 policy (by omega) (by decide)) (flag_or_byte _ (by omega))

theorem watchActions_toNat : ∀ before after commit : Bool,
    (bitAt before 0 ||| bitAt after 1 ||| bitAt commit 2).toNat = before.toNat + after.toNat * 2 + commit.toNat * 4 := by
  decide

theorem State.watchEntry_reads (n : Fin 8) (s : State) : s.entryReads (8 + n.val)
    [s.watches[n].address.toNat / 65536, s.watches[n].address.toNat / 256 % 256, s.watches[n].address.toNat % 256,
      s.watches[n].mask.toNat, s.watches[n].compare.toNat, s.watches[n].enabled.toNat * 128 + s.watches[n].polarity.code,
      s.watches[n].barrierBefore.toNat + s.watches[n].barrierAfter.toNat * 2 + s.watches[n].commit.toNat * 4,
      s.watches[n].lastMatch.toNat] := by
  have entry : s.entryBytes ⟨8 + n.val, by omega⟩ = s.watches[n].toBytes := by
    have isWatch : 8 + n.val < 16 := by omega
    simp [State.entryBytes, isWatch]
  generalize s.watches[n] = w at entry
  have address := w.address.isLt
  have polarity : w.polarity.code < 128 := by cases w.polarity <;> decide
  exact State.entryReads_of_bytes entry (byte_toNat_of_lt (by omega)) (byte_toNat _) (byte_toNat _) rfl rfl
    (flag_or_byte _ polarity) (watchActions_toNat _ _ _) ((bitAt_toNat _ (by decide)).trans (Nat.one_mul _))

theorem low_byte_toNat (x : BitVec 16) : (x.extractLsb' 0 8).toNat = x.toNat % 256 := by
  simp [BitVec.extractLsb'_toNat]

theorem high_byte_toNat (x : BitVec 16) : (x.extractLsb' 8 8).toNat = x.toNat / 256 := by
  have lt := x.isLt
  rw [BitVec.extractLsb'_toNat, Nat.shiftRight_eq_div_pow]
  omega

theorem Capacity.code_lt (c : Capacity) : c.code < 3 := by cases c <;> decide

theorem State.settingsEntry_reads {s : State} (h : s.settings.inRange) : s.entryReads 17
    [s.settings.fillByte.toNat, s.settings.lowWater, s.settings.holdLimit, s.settings.budget, s.settings.programTimeout,
      ((List.finRange 4).map fun d => 4 ^ d.val * s.devices[d].capacity.code).sum, s.settings.eventEnable.toNat % 256,
      s.settings.eventEnable.toNat / 256] := by
  obtain ⟨hwater, hhold, hbudget, -, htimeout⟩ := h
  have h0 := s.devices[(0 : Fin 4)].capacity.code_lt
  have h1 := s.devices[(1 : Fin 4)].capacity.code_lt
  have h2 := s.devices[(2 : Fin 4)].capacity.code_lt
  have h3 := s.devices[(3 : Fin 4)].capacity.code_lt
  have capacity (d : Fin 4) : s.capacities[d] = s.devices[d].capacity := by simp [State.capacities]
  have codes : (byte (s.capacities[(0 : Fin 4)].code + s.capacities[(1 : Fin 4)].code * 4 + s.capacities[(2 : Fin 4)].code * 16 +
      s.capacities[(3 : Fin 4)].code * 64)).toNat = ((List.finRange 4).map fun d => 4 ^ d.val * s.devices[d].capacity.code).sum := by
    rw [capacity, capacity, capacity, capacity, byte_toNat_of_lt (by omega)]
    simp [List.finRange_succ]
    omega
  exact State.entryReads_of_bytes (e := 17) rfl rfl (byte_toNat_of_lt (by omega)) (byte_toNat_of_lt (by omega))
    (byte_toNat_of_lt (by omega)) (byte_toNat_of_lt (by omega)) codes (low_byte_toNat _) (high_byte_toNat _)

/-! ### The other entries -/

theorem State.deviceEntry_reads (s : State) : s.entryReads 16 ((List.finRange 4).flatMap fun d =>
    [s.devices[d].probe.isSome.toNat * 128 + s.devices[d].state.code, s.devices[d].capacity.code]) := by
  have record (x : Device) : x.toBytes[0].toNat = x.probe.isSome.toNat * 128 + x.state.code ∧
      x.toBytes[1].toNat = x.capacity.code :=
    ⟨flag_or_byte _ (by cases x.state <;> decide), byte_toNat_of_lt (x.capacity.code_lt.trans (by decide))⟩
  have h0 := record s.devices[0]
  have h1 := record s.devices[1]
  have h2 := record s.devices[2]
  have h3 := record s.devices[3]
  exact State.entryReads_of_bytes (e := 16) rfl h0.1 h0.2 h1.1 h1.2 h2.1 h2.2 h3.1 h3.2

theorem State.flagEntry_reads (s : State) : s.entryReads 18 [s.flags.toNat % 256, s.flags.toNat / 256, 0, 0, 0, 0, 0, 0] :=
  State.entryReads_of_bytes (e := 18) rfl (low_byte_toNat _) (high_byte_toNat _) rfl rfl rfl rfl rfl rfl

/-- EVT# is low where a set flag is enabled (R181). -/
theorem State.evtLow_iff (s : State) : s.evtLow = true ↔
    ∃ i : Fin 16, s.flags.getLsbD i.val = true ∧ s.settings.eventEnable.getLsbD i.val = true := by
  rw [State.evtLow, decide_eq_true_eq]
  refine ⟨fun h => ?_, fun ⟨i, hf, he⟩ h => ?_⟩
  · by_contra hnone
    refine h (BitVec.eq_of_getLsbD_eq fun i hi => ?_)
    change _ = (0#16).getLsbD i
    rw [BitVec.getLsbD_and, BitVec.getLsbD_zero, Bool.eq_false_iff]
    refine fun hboth => hnone ⟨⟨i, hi⟩, ?_⟩
    rwa [Bool.and_eq_true] at hboth
  · have bit : (s.flags &&& s.settings.eventEnable).getLsbD i.val = (0#16).getLsbD i.val := by rw [h]; rfl
    rw [BitVec.getLsbD_and, hf, he, BitVec.getLsbD_zero] at bit
    exact Bool.noConfusion bit

theorem faultFlags_toNat : ∀ full overflow write : Bool,
    (bitAt full 0 ||| bitAt overflow 1 ||| bitAt write 2).toNat = full.toNat + overflow.toNat * 2 + write.toNat * 4 := by
  decide

theorem State.faultEntry_reads (s : State) : s.entryReads 19
    [s.port.fault.full.toNat + s.port.fault.overflow.toNat * 2 + (if s.port.fault.direction = .write then 4 else 0),
      (match s.port.fault.cause with
        | none => 0
        | some c => c.code),
      s.port.fault.address.toNat / 65536, s.port.fault.address.toNat / 256 % 256, s.port.fault.address.toNat % 256,
      0, 0, 0] := by
  have entry : s.entryBytes 19 = s.port.fault.toBytes := rfl
  generalize s.port.fault = f at entry
  have address := f.address.isLt
  have status : (bitAt f.full 0 ||| bitAt f.overflow 1 ||| bitAt (decide (f.direction = .write)) 2).toNat =
      f.full.toNat + f.overflow.toNat * 2 + if f.direction = .write then 4 else 0 := by
    rw [faultFlags_toNat]
    cases f.direction <;> rfl
  have cause : f.toBytes[1].toNat = (match f.cause with | none => 0 | some c => c.code) := by
    change (match f.cause with | none => (0 : Byte) | some c => byte c.code).toNat = _
    cases f.cause with
    | none => rfl
    | some c => exact byte_toNat_of_lt (by cases c <;> decide)
  exact State.entryReads_of_bytes entry status cause (byte_toNat_of_lt (by omega)) (byte_toNat _) (byte_toNat _) rfl rfl
    rfl

theorem State.poolEntry_reads {s : State} (h : s.queue.length ≤ 32) : s.entryReads 20
    ([BufferState.free, .clean, .dirty, .committing, .failed].map s.bufferCount ++
      [s.queue.length, s.queue.countP (·.isMarker), s.part.code]) := by
  have count (x : BufferState) : (byte (s.bufferCount x)).toNat = s.bufferCount x := by
    refine byte_toNat_of_lt (Nat.lt_of_le_of_lt List.countP_le_length ?_)
    rw [List.length_finRange]
    decide
  have markers : Queue.markerCount s.queue ≤ s.queue.length := List.countP_le_length
  exact State.entryReads_of_bytes (e := 20) rfl (count _) (count _) (count _) (count _) (count _)
    (byte_toNat_of_lt (by omega)) (byte_toNat_of_lt (by omega)) (byte_toNat_of_lt (by cases s.part <;> decide))

/-! ### Buffer status entries (R59) -/

/-- No record that fits its state has more than three attempts. -/
theorem PageBuffer.attempts_le {x : PageBuffer} (h : x.fitsState = true) : x.attempts ≤ 3 := by
  unfold PageBuffer.fitsState at h
  cases hx : x.state <;> simp only [hx, decide_eq_true_eq] at h <;> omega

theorem BufferState.code_lt (x : BufferState) : x.code < 8 := by cases x <;> decide

theorem Queue.position_getD_le {q : List QueueEntry} (h : q.length ≤ 32) (b : Fin 16) :
    (Queue.position q b).getD 255 < 256 := by
  cases hp : Queue.position q b with
  | none => decide
  | some p =>
    have lt : p < q.length := (List.findIdx?_eq_some_iff_getElem.mp hp).choose
    exact Nat.lt_of_lt_of_le lt (h.trans (by decide))

theorem PageBuffer.toBytes_eq (x : PageBuffer) (position : Option Nat) : x.toBytes position =
    #v[bitAt x.fill 7 ||| byte (x.attempts * 16) ||| byte x.state.code,
      byte ((x.tag.getD ⟨0, 0⟩).device.val * 64) ||| byte ((x.tag.getD ⟨0, 0⟩).page / 256),
      byte (x.tag.getD ⟨0, 0⟩).page, byte (position.getD 255)] := by
  unfold PageBuffer.toBytes
  cases x.tag <;> cases position <;> rfl

/-- The four bytes of a buffer whose fields are in range. -/
theorem PageBuffer.toBytes_toNat {x : PageBuffer} {position : Option Nat} (hattempts : x.attempts ≤ 3)
    (hpage : x.tag.all (·.page < 2048) = true) (hplace : position.getD 255 < 256) :
    (List.finRange 4).map (fun i => (x.toBytes position)[i].toNat) =
      [x.fill.toNat * 128 + x.attempts * 16 + x.state.code,
        (x.tag.getD ⟨0, 0⟩).device.val * 64 + (x.tag.getD ⟨0, 0⟩).page / 256, (x.tag.getD ⟨0, 0⟩).page % 256,
        position.getD 255] := by
  have code := x.state.code_lt
  have status : (bitAt x.fill 7 ||| byte (x.attempts * 16) ||| byte x.state.code).toNat =
      x.fill.toNat * 128 + x.attempts * 16 + x.state.code := by
    have upper : (bitAt x.fill 7 ||| byte (x.attempts * 16)).toNat = 2 ^ 4 * (x.fill.toNat * 8 + x.attempts) := by
      rw [flag_or_byte _ (by omega)]
      omega
    rw [toNat_or_byte 4 upper (by omega) (by decide)]
    omega
  have page : (x.tag.getD ⟨0, 0⟩).page < 2048 := by
    cases htag : x.tag with
    | none => decide
    | some t => simpa [htag] using hpage
  have device : (byte ((x.tag.getD ⟨0, 0⟩).device.val * 64) ||| byte ((x.tag.getD ⟨0, 0⟩).page / 256)).toNat =
      (x.tag.getD ⟨0, 0⟩).device.val * 64 + (x.tag.getD ⟨0, 0⟩).page / 256 :=
    byte_or_byte 6 (by omega) (by omega) (by decide)
  rw [x.toBytes_eq]
  exact congrArg₂ List.cons status (congrArg₂ List.cons device (congrArg₂ List.cons (byte_toNat _)
    (congrArg₂ List.cons (byte_toNat_of_lt hplace) rfl)))

theorem State.statusEntry_reads {s : State} (k : Fin 8)
    (h : ∀ b : Fin 16, s.buffers[b].fitsState = true ∧ s.buffers[b].tag.all (·.page < 2048) = true)
    (hq : s.queue.length ≤ 32) :
    s.entryReads (21 + k.val) (s.statusNumbers ⟨2 * k.val, by omega⟩ ++ s.statusNumbers ⟨2 * k.val + 1, by omega⟩) := by
  have numbers (b : Fin 16) : (List.finRange 4).map (fun i => (s.bufferStatus b)[i].toNat) = s.statusNumbers b :=
    PageBuffer.toBytes_toNat (PageBuffer.attempts_le (h b).1) (h b).2 (Queue.position_getD_le hq b)
  have entry : s.entryBytes ⟨21 + k.val, by omega⟩ = s.statusBytes k := by
    have isStatus : 21 + k.val < 29 := by omega
    have notWatch : ¬ 21 + k.val < 16 := by omega
    have notRegion : ¬ 21 + k.val < 8 := by omega
    simp [State.entryBytes, notRegion, notWatch, isStatus]
    repeat rw [if_neg (by omega)]
  have halves : (List.finRange 8).map (fun i => (s.statusBytes k)[i].toNat) =
      (List.finRange 4).map (fun i => (s.bufferStatus ⟨2 * k.val, by omega⟩)[i].toNat) ++
        (List.finRange 4).map (fun i => (s.bufferStatus ⟨2 * k.val + 1, by omega⟩)[i].toNat) := rfl
  rw [← numbers, ← numbers, ← halves, ← entry]
  exact (s.entryReads_iff ⟨21 + k.val, by omega⟩ _).mpr rfl

/-! ### The command entry and the unused entry -/

theorem State.commandEntry_reads (s : State) : s.entryReads 31
    [s.management.code.toNat, s.management.argument.toNat, s.management.commandStatus.code,
      s.management.applyStatus.code, 0, 0, 0, 0] :=
  State.entryReads_of_bytes (e := 31) rfl rfl rfl (byte_toNat_of_lt (by cases s.management.commandStatus <;> decide))
    (byte_toNat_of_lt (by cases s.management.applyStatus <;> decide)) rfl rfl rfl rfl

theorem State.unusedEntry_reads (s : State) : s.entryReads 30 [0, 0, 0, 0, 0, 0, 0, 0] :=
  State.entryReads_of_bytes (e := 30) rfl rfl rfl rfl rfl rfl rfl rfl rfl

/-! ### Watch and settings bytes read back (R191) -/

theorem bits_flag_polarity (flag : Bool) (p : Polarity) : Polarity.ofCode (bits (bitAt flag 7 ||| byte p.code) 1 0) = some p ∧
    (bitAt flag 7 ||| byte p.code).getLsbD 7 = flag := by
  cases p <;> cases flag <;> decide

theorem bits_watchActions : ∀ before after commit : Bool,
    (bitAt before 0 ||| bitAt after 1 ||| bitAt commit 2).getLsbD 0 = before ∧
      (bitAt before 0 ||| bitAt after 1 ||| bitAt commit 2).getLsbD 1 = after ∧
      (bitAt before 0 ||| bitAt after 1 ||| bitAt commit 2).getLsbD 2 = commit := by decide

/-- A watch entry reads back from its eight bytes, except last-match. -/
theorem Watch.ofBytes_toBytes (w : Watch) : Watch.ofBytes w.toBytes = some { w with lastMatch := false } := by
  have lt := w.address.isLt
  obtain ⟨polarity, enabled⟩ := bits_flag_polarity w.enabled w.polarity
  obtain ⟨before, after, commit⟩ := bits_watchActions w.barrierBefore w.barrierAfter w.commit
  have address : w.address.toNat / 65536 % 256 * 65536 + w.address.toNat / 256 % 256 * 256 + w.address.toNat % 256 =
      w.address.toNat := by omega
  have value : ¬ w.address.toNat > 0xFFFFF := by omega
  have b0 : w.toBytes[0] = byte (w.address.toNat / 65536) := rfl
  have b1 : w.toBytes[1] = byte (w.address.toNat / 256) := rfl
  have b2 : w.toBytes[2] = byte w.address.toNat := rfl
  have b3 : w.toBytes[3] = w.mask := rfl
  have b4 : w.toBytes[4] = w.compare := rfl
  have b5 : w.toBytes[5] = bitAt w.enabled 7 ||| byte w.polarity.code := rfl
  have b6 : w.toBytes[6] = bitAt w.barrierBefore 0 ||| bitAt w.barrierAfter 1 ||| bitAt w.commit 2 := rfl
  simp only [Watch.ofBytes, b0, b1, b2, b3, b4, b5, b6, byte_toNat, polarity, enabled, before, after, commit, address,
    value, if_false, BitVec.ofNat_toNat, BitVec.setWidth_eq]

theorem bits_toNat (v : Byte) (hi lo : Nat) : bits v hi lo = v.toNat / 2 ^ lo % 2 ^ (hi - lo + 1) := by
  rw [bits, BitVec.extractLsb_toNat, Nat.shiftRight_eq_div_pow]

theorem Capacity.ofCode_code (c : Capacity) : Capacity.ofCode c.code = some c := by cases c <;> rfl

theorem capacitiesOf_codes (a b c d : Capacity) :
    capacitiesOf (byte (a.code + b.code * 4 + c.code * 16 + d.code * 64)) = some #v[a, b, c, d] := by
  have ha := a.code_lt
  have hb := b.code_lt
  have hc := c.code_lt
  have hd := d.code_lt
  have h0 : bits (byte (a.code + b.code * 4 + c.code * 16 + d.code * 64)) 1 0 = a.code := by
    rw [bits_toNat, byte_toNat_of_lt (by omega)]; omega
  have h1 : bits (byte (a.code + b.code * 4 + c.code * 16 + d.code * 64)) 3 2 = b.code := by
    rw [bits_toNat, byte_toNat_of_lt (by omega)]; omega
  have h2 : bits (byte (a.code + b.code * 4 + c.code * 16 + d.code * 64)) 5 4 = c.code := by
    rw [bits_toNat, byte_toNat_of_lt (by omega)]; omega
  have h3 : bits (byte (a.code + b.code * 4 + c.code * 16 + d.code * 64)) 7 6 = d.code := by
    rw [bits_toNat, byte_toNat_of_lt (by omega)]; omega
  simp only [capacitiesOf, h0, h1, h2, h3, Capacity.ofCode_code]

theorem low_append_high (x : BitVec 16) : x.extractLsb' 8 8 ++ x.extractLsb' 0 8 = x :=
  BitVec.extractLsb'_append_extractLsb'_eq_extractLsb' (by decide) |>.trans (by simp)

/-- The settings and capacities read back from their eight bytes. -/
theorem Settings.ofBytes_toBytes {x : Settings} (capacities : Vector Capacity 4) (h : x.inRange) :
    Settings.ofBytes (x.toBytes capacities) = some (x, capacities) := by
  obtain ⟨hwater, hhold, hbudget, htimeout, htimeout'⟩ := h
  have vector : #v[capacities[0], capacities[1], capacities[2], capacities[3]] = capacities := by
    ext i hi
    interval_cases i <;> rfl
  have codes : capacitiesOf (x.toBytes capacities)[5] = some capacities := by
    have codes := capacitiesOf_codes capacities[0] capacities[1] capacities[2] capacities[3]
    rw [vector] at codes
    exact codes
  have b0 : (x.toBytes capacities)[0] = x.fillByte := rfl
  have b1 : (x.toBytes capacities)[1].toNat = x.lowWater := byte_toNat_of_lt (by omega)
  have b2 : (x.toBytes capacities)[2].toNat = x.holdLimit := byte_toNat_of_lt (by omega)
  have b3 : (x.toBytes capacities)[3].toNat = x.budget := byte_toNat_of_lt (by omega)
  have b4 : (x.toBytes capacities)[4].toNat = x.programTimeout := byte_toNat_of_lt (by omega)
  have b67 : (x.toBytes capacities)[7] ++ (x.toBytes capacities)[6] = x.eventEnable := low_append_high _
  have value : ¬ (x.lowWater > 8 ∨ x.budget > 15 ∨ x.programTimeout = 0 ∨ x.programTimeout > 31) := by omega
  simp only [Settings.ofBytes, codes, b0, b1, b2, b3, b4, b67, value, if_false]

/-! ### O52 -/

/-- Where each event flag stands in the flag word. -/
theorem State.flagSet_list (s : State) :
    [s.flagSet .commitFail, s.flagSet .deviceFault, s.flagSet .accessFault, s.flagSet .flushDone, s.flagSet .holdup,
      s.flagSet .holdupShort, s.flagSet .descriptor, s.flagSet .pressure] = (List.range 8).map s.flags.getLsbD := rfl

theorem State.flagSet_watch (s : State) (n : Fin 8) : s.flagSet (.watch n) = s.flags.getLsbD (8 + n.val) := rfl

/-- Settles O52: the bytes of each entry are its fields at the places that 12 section 12.4 gives them, and they read
back. -/
theorem entriesReadAsTheFormatsSay : Obligations.EntriesReadAsTheFormatsSay := by
  unfold Obligations.EntriesReadAsTheFormatsSay
  refine ⟨fun n s h => ?regions, fun n s => ?watches, fun s => ?devices, fun s h => ?settings, fun s => ?flags,
    fun s => ?fault, fun s h => ?pool, fun k s h hq => s.statusEntry_reads k h hq, fun s => ?command,
    fun r => Region.ofBytes_toBytes, Watch.ofBytes_toBytes, fun x c h => Settings.ofBytes_toBytes c h⟩
  case regions => exact s.regionEntry_reads n h
  case watches =>
    have code (p : Polarity) : p.code = if p = .enter then 1 else 0 := by cases p <;> rfl
    rw [← code]
    exact s.watchEntry_reads n
  case devices => exact s.deviceEntry_reads
  case settings => exact State.settingsEntry_reads h
  case flags => exact ⟨s.flagEntry_reads, s.flagSet_list, s.flagSet_watch, s.evtLow_iff⟩
  case fault =>
    have entry := s.faultEntry_reads
    cases hc : s.port.fault.cause with
    | none => rwa [hc] at entry
    | some c =>
      rw [hc] at entry
      cases c <;> exact entry
  case pool => exact State.poolEntry_reads h
  case command => exact ⟨s.unusedEntry_reads, s.commandEntry_reads⟩

end Sys2Proof.Machine
end

section
/-! PROOFS. What a command of each class leaves alone, as one relation between states; the operations of the Commit Engine, the
Scheduler and the Window keep it in every class (R6, R71, R81, R100, R104). -/
namespace Sys2Proof.Machine

/-- The tag, the valid map and the bytes of every buffer are the same. -/
abbrev State.SameBytes (s t : State) : Prop :=
  ∀ b : Fin 16, t.buffers[b].tag = s.buffers[b].tag ∧ t.buffers[b].valid = s.buffers[b].valid ∧
    t.buffers[b].data = s.buffers[b].data

theorem State.SameBytes.of_eq {s t : State} (h : t.buffers = s.buffers) : s.SameBytes t := fun b => by
  rw [h]
  exact ⟨rfl, rfl, rfl⟩

/-- What a command of class `k` leaves of the other blocks; `keeps` says whether it also leaves the buffers' bytes where no
access waits. -/
structure State.LeavesAlone (k : CommandClass) (keeps : Bool) (s t : State) : Prop where
  resetHeld : t.resetHeld = s.resetHeld
  straps : t.straps = s.straps
  phase : t.startup.phase = s.startup.phase
  outcome : t.startup.outcome = s.startup.outcome
  configuration : k ≠ .management → t.management = s.management ∧ t.regions = s.regions ∧ t.settings = s.settings ∧
    ∀ i, s.flags.getLsbD i = true → t.flags.getLsbD i = true
  supply : k ≠ .supply → t.part = s.part ∧ t.supply.state = s.supply.state ∧ t.supply.sagTimer = s.supply.sagTimer ∧
    t.supply.recoveryTimer = s.supply.recoveryTimer
  link : (k = .hostBus ∨ k = .commits ∨ k = .supply) →
    t.devices = s.devices ∧ t.link.map (·.operation) = s.link.map (·.operation)
  port : s.waiting = none → (k = .hostBus → keeps = true) → t.port.access = s.port.access ∧
    t.port.readByte = s.port.readByte ∧ t.port.writeLatch = s.port.writeLatch ∧
    (k ≠ .management → t.port.fault = s.port.fault ∧ t.watches = s.watches)
  bytes : s.waiting = none → keeps = true → s.SameBytes t

theorem State.waiting_of_access {s t : State} (h : t.port.access = s.port.access) : t.waiting = s.waiting := by
  simp only [State.waiting, h]

namespace State.LeavesAlone

variable {k : CommandClass} {keeps : Bool} {s t u : State}

theorem refl (k : CommandClass) (keeps : Bool) (s : State) : s.LeavesAlone k keeps s where
  resetHeld := rfl
  straps := rfl
  phase := rfl
  outcome := rfl
  configuration _ := ⟨rfl, rfl, rfl, fun _ h => h⟩
  supply _ := ⟨rfl, rfl, rfl, rfl⟩
  link _ := ⟨rfl, rfl⟩
  port _ _ := ⟨rfl, rfl, rfl, fun _ => ⟨rfl, rfl⟩⟩
  bytes _ _ := .of_eq rfl

theorem waiting (h : s.LeavesAlone k keeps t) (hw : s.waiting = none) (hk : k = .hostBus → keeps = true) : t.waiting = none :=
  (waiting_of_access (h.port hw hk).1).trans hw

theorem trans (h : s.LeavesAlone k keeps t) (h' : t.LeavesAlone k keeps u) : s.LeavesAlone k keeps u where
  resetHeld := h'.resetHeld.trans h.resetHeld
  straps := h'.straps.trans h.straps
  phase := h'.phase.trans h.phase
  outcome := h'.outcome.trans h.outcome
  configuration hk := by
    obtain ⟨hm, hr, hx, hf⟩ := h.configuration hk
    obtain ⟨hm', hr', hx', hf'⟩ := h'.configuration hk
    exact ⟨hm'.trans hm, hr'.trans hr, hx'.trans hx, fun i hi => hf' i (hf i hi)⟩
  supply hk := by
    obtain ⟨hp, hs, hg, hr⟩ := h.supply hk
    obtain ⟨hp', hs', hg', hr'⟩ := h'.supply hk
    exact ⟨hp'.trans hp, hs'.trans hs, hg'.trans hg, hr'.trans hr⟩
  link hk := by
    obtain ⟨hd, hl⟩ := h.link hk
    obtain ⟨hd', hl'⟩ := h'.link hk
    exact ⟨hd'.trans hd, hl'.trans hl⟩
  port hw hk := by
    obtain ⟨ha, hb, hl, hf⟩ := h.port hw hk
    obtain ⟨ha', hb', hl', hf'⟩ := h'.port (h.waiting hw hk) hk
    refine ⟨ha'.trans ha, hb'.trans hb, hl'.trans hl, fun hm => ?_⟩
    obtain ⟨hfault, hwatches⟩ := hf hm
    obtain ⟨hfault', hwatches'⟩ := hf' hm
    exact ⟨hfault'.trans hfault, hwatches'.trans hwatches⟩
  bytes hw hb b := by
    obtain ⟨ht, hv, hd⟩ := h.bytes hw hb b
    obtain ⟨ht', hv', hd'⟩ := h'.bytes (h.waiting hw fun _ => hb) hb b
    exact ⟨ht'.trans ht, hv'.trans hv, hd'.trans hd⟩

/-- An operation that writes no other block. -/
theorem of_frame (h : t.resetHeld = s.resetHeld ∧ t.straps = s.straps ∧ t.startup = s.startup ∧ t.port = s.port ∧
    t.management = s.management ∧ t.regions = s.regions ∧ t.settings = s.settings ∧ t.part = s.part ∧
    t.supply = s.supply ∧ t.devices = s.devices ∧ t.link = s.link ∧ t.watches = s.watches ∧ t.flags = s.flags)
    (hb : keeps = true → s.SameBytes t) : s.LeavesAlone k keeps t := by
  obtain ⟨resetHeld, straps, startup, port, management, regions, settings, part, supply, devices, link, watches, flags⟩ := h
  exact
    { resetHeld := resetHeld
      straps := straps
      phase := by rw [startup]
      outcome := by rw [startup]
      configuration := fun _ => ⟨management, regions, settings, by rw [flags]; exact fun _ h => h⟩
      supply := fun _ => ⟨part, by rw [supply], by rw [supply], by rw [supply]⟩
      link := fun _ => ⟨devices, by rw [link]⟩
      port := fun _ _ => ⟨by rw [port], by rw [port], by rw [port], fun _ => ⟨by rw [port], watches⟩⟩
      bytes := fun _ => hb }

/-- What answers an access that waits may change the Port, the watches and the buffers' bytes. -/
theorem of_waiting (hw : s.waiting ≠ none) (h : s.LeavesAlone .hostBus false t) : s.LeavesAlone k keeps t where
  resetHeld := h.resetHeld
  straps := h.straps
  phase := h.phase
  outcome := h.outcome
  configuration _ := h.configuration nofun
  supply _ := h.supply nofun
  link _ := h.link (.inl rfl)
  port hn := absurd hn hw
  bytes hn := absurd hn hw

theorem foldl {ι : Type} {f : State → ι → State} (h : ∀ (u : State) i, u.LeavesAlone k keeps (f u i)) (l : List ι) (s : State) :
    s.LeavesAlone k keeps (l.foldl f s) :=
  foldl_invariant (P := fun t => s.LeavesAlone k keeps t) (.refl k keeps s) fun _ _ ht => ht.trans (h _ _)

end State.LeavesAlone

namespace State

variable {k : CommandClass} {keeps : Bool}

/-! ### The operations of the state -/

/-- A record that keeps its tag, valid map and bytes. -/
theorem setBuffer_sameBytes {s : State} {b : Fin 16} {x : PageBuffer} (h : x.tag = s.buffers[b].tag ∧
    x.valid = s.buffers[b].valid ∧ x.data = s.buffers[b].data := by exact ⟨rfl, rfl, rfl⟩) :
    s.SameBytes (s.setBuffer b x) := fun b' => by
  rw [s.buffers_setBuffer]
  split
  · rename_i hb
    subst hb
    exact h
  · exact ⟨rfl, rfl, rfl⟩

theorem setBuffer_leavesAlone {s : State} {b : Fin 16} {x : PageBuffer} (h : x.tag = s.buffers[b].tag ∧
    x.valid = s.buffers[b].valid ∧ x.data = s.buffers[b].data := by exact ⟨rfl, rfl, rfl⟩) :
    s.LeavesAlone k keeps (s.setBuffer b x) :=
  .of_frame (by simp) fun _ => setBuffer_sameBytes h

/-- A record that is replaced whole. -/
theorem putBuffer_leavesAlone (s : State) (b : Fin 16) (x : PageBuffer) : s.LeavesAlone k false (s.setBuffer b x) :=
  .of_frame (by simp) nofun

theorem raise_leavesAlone (s : State) (f : EventFlag) : s.LeavesAlone k keeps (s.raise f) :=
  { LeavesAlone.refl k keeps s with
    configuration := fun _ => ⟨rfl, rfl, rfl, (s.raise_samePortMoreFlags f).2⟩ }

theorem advanceTo_leavesAlone (s : State) (time : Time) : s.LeavesAlone k keeps (s.advanceTo time) :=
  .of_frame (by simp) fun _ => .of_eq (by simp)

theorem request_leavesAlone (s : State) (o : Operation) : s.LeavesAlone k keeps (s.request o) :=
  .of_frame (by simp) fun _ => .of_eq (by simp)

theorem withdraw_leavesAlone (s : State) (o : OperationKind) (d : Fin 4) : s.LeavesAlone k keeps (s.withdraw o d) :=
  .of_frame (by simp) fun _ => .of_eq (by simp)

/-- The queue, the request set and the transmit store are none of those blocks. -/
theorem LeavesAlone.of_buffers {s t : State} (h : t.resetHeld = s.resetHeld ∧ t.straps = s.straps ∧ t.startup = s.startup ∧
    t.port = s.port ∧ t.management = s.management ∧ t.regions = s.regions ∧ t.settings = s.settings ∧ t.part = s.part ∧
    t.supply = s.supply ∧ t.devices = s.devices ∧ t.link = s.link ∧ t.watches = s.watches ∧ t.flags = s.flags)
    (hb : t.buffers = s.buffers) : s.LeavesAlone k keeps t :=
  .of_frame h fun _ => .of_eq hb

theorem cancelFetch_leavesAlone (s : State) (b : Fin 16) : s.LeavesAlone k keeps (s.cancelFetch b) :=
  .of_frame (by simp) fun _ => setBuffer_sameBytes (x := { s.buffers[b] with fill := false })

theorem requestFetch_leavesAlone (s : State) (b : Fin 16) : s.LeavesAlone k keeps (s.requestFetch b) := by
  unfold requestFetch
  split
  · exact .refl _ _ s
  · exact .trans setBuffer_leavesAlone (request_leavesAlone _ _)

theorem removeEntry_leavesAlone (s : State) (b : Fin 16) : s.LeavesAlone k keeps (s.removeEntry b) := by
  have removed : s.LeavesAlone k keeps { s with
      queue := Queue.normalise (Queue.without s.queue b)
      buffers := s.buffers.set b { s.buffers[b] with commitRegion := none, ageDeadline := none } } :=
    .of_frame ⟨rfl, rfl, rfl, rfl, rfl, rfl, rfl, rfl, rfl, rfl, rfl, rfl, rfl⟩ fun _ =>
      setBuffer_sameBytes (x := { s.buffers[b] with commitRegion := none, ageDeadline := none })
  unfold removeEntry
  dsimp only
  split
  · exact removed.trans (raise_leavesAlone _ _)
  · exact removed

/-! ### Commits (05) -/

theorem withdrawCommit_leavesAlone (s : State) (b : Fin 16) : s.LeavesAlone k keeps (s.withdrawCommit b) :=
  .of_buffers (by simp) (by simp)

theorem endDirty_leavesAlone (s : State) (b : Fin 16) : s.LeavesAlone k keeps (s.endDirty b) :=
  (s.withdrawCommit_leavesAlone b).trans setBuffer_leavesAlone

theorem becomeFailed_leavesAlone (s : State) (b : Fin 16) : s.LeavesAlone k keeps (s.becomeFailed b) :=
  .trans ((s.withdrawCommit_leavesAlone b).trans setBuffer_leavesAlone) (raise_leavesAlone _ .commitFail)

theorem stopCommit_leavesAlone (s : State) (b : Fin 16) : s.LeavesAlone k keeps (s.stopCommit b) := by
  unfold stopCommit
  dsimp only
  split
  · exact (s.cancelFetch_leavesAlone b).trans (endDirty_leavesAlone _ b)
  · exact s.endDirty_leavesAlone b

theorem enterFill_leavesAlone (s : State) (b : Fin 16) : s.LeavesAlone k keeps (s.enterFill b) := by
  have staged : s.LeavesAlone k keeps (s.setBuffer b { s.buffers[b] with stage := some .fill }) :=
    setBuffer_leavesAlone
  unfold enterFill
  dsimp only
  split
  · exact staged
  · exact staged.trans (requestFetch_leavesAlone _ b)

theorem SameBytes.of_one {s t : State} {b : Fin 16} (others : s.SameBuffersBut b t) (tag : t.buffers[b].tag = s.buffers[b].tag)
    (valid : t.buffers[b].valid = s.buffers[b].valid) (data : t.buffers[b].data = s.buffers[b].data) : s.SameBytes t := fun b' => by
  by_cases hb : b' = b
  · subst hb
    exact ⟨tag, valid, data⟩
  · rw [others b' hb]
    exact ⟨rfl, rfl, rfl⟩

theorem startSend_leavesAlone (s : State) (b : Fin 16) : s.LeavesAlone k keeps (s.startSend b) :=
  .of_frame (by simp) fun _ => .of_one (s.startSend_sameBuffersBut b) (s.startSend_keeps b).tag (s.startSend_keeps b).valid
    (s.startSend_keeps b).data

theorem enterSend_leavesAlone (s : State) (b : Fin 16) : s.LeavesAlone k keeps (s.enterSend b) := by
  unfold enterSend
  split
  · split
    · exact s.stopCommit_leavesAlone b
    · have spent : s.LeavesAlone k keeps { s with supply := { s.supply with count := s.supply.count - 1 } } :=
        { LeavesAlone.refl k keeps s with supply := fun _ => ⟨rfl, rfl, rfl, rfl⟩ }
      exact spent.trans (startSend_leavesAlone _ b)
  · exact s.startSend_leavesAlone b

theorem startChoice_leavesAlone (s : State) (b : Fin 16) : s.LeavesAlone k keeps (s.startChoice b) := by
  unfold startChoice
  split
  · exact s.enterSend_leavesAlone b
  · exact s.enterFill_leavesAlone b

theorem startCommit_leavesAlone (s : State) (b : Fin 16) : s.LeavesAlone k keeps (s.startCommit b) :=
  .trans setBuffer_leavesAlone (startChoice_leavesAlone _ b)

theorem endWell_leavesAlone (s : State) (b : Fin 16) : s.LeavesAlone k keeps (s.endWell b) := by
  refine (s.withdrawCommit_leavesAlone b).trans ?_
  unfold endWell
  dsimp only
  split
  · exact .trans setBuffer_leavesAlone (removeEntry_leavesAlone _ b)
  · exact setBuffer_leavesAlone

/-- A counted failure, whose retry leaves the other blocks alone. -/
theorem afterFailure_leavesAlone (s : State) (b : Fin 16) {retry : State → State}
    (h : ∀ u : State, u.LeavesAlone k keeps (retry u)) : s.LeavesAlone k keeps (s.afterFailure b retry) := by
  have counted : s.LeavesAlone k keeps (s.setBuffer b
      { s.buffers[b].returnInFlight with attempts := s.buffers[b].returnInFlight.attempts + 1 }) :=
    setBuffer_leavesAlone
  unfold afterFailure
  dsimp only
  split
  · exact counted.trans (becomeFailed_leavesAlone _ b)
  · split
    · exact counted
    · split
      · exact counted.trans (endDirty_leavesAlone _ b)
      · exact counted.trans (h _)

theorem fillFailed_leavesAlone (s : State) (b : Fin 16) : s.LeavesAlone k keeps (s.fillFailed b) :=
  s.afterFailure_leavesAlone b fun u => u.requestFetch_leavesAlone b

theorem sendFailed_leavesAlone (s : State) (b : Fin 16) : s.LeavesAlone k keeps (s.sendFailed b) :=
  (s.withdrawCommit_leavesAlone b).trans (afterFailure_leavesAlone _ b fun u => u.startChoice_leavesAlone b)

theorem checkFailed_leavesAlone (s : State) (b : Fin 16) : s.LeavesAlone k keeps (s.checkFailed b) :=
  s.afterFailure_leavesAlone b fun u => u.startChoice_leavesAlone b

theorem enterCheck_leavesAlone (s : State) (b : Fin 16) : s.LeavesAlone k keeps (s.enterCheck b) := by
  unfold enterCheck
  split
  · exact .trans setBuffer_leavesAlone (request_leavesAlone _ _)
  · exact .refl _ _ s

theorem endBusy_leavesAlone (s : State) (b : Fin 16) : s.LeavesAlone k keeps (s.endBusy b) := by
  unfold endBusy
  split
  · exact s.enterCheck_leavesAlone b
  · exact s.endWell_leavesAlone b

theorem endUnstartedCheck_leavesAlone (s : State) (b : Fin 16) : s.LeavesAlone k keeps (s.endUnstartedCheck b) := by
  unfold endUnstartedCheck
  split
  · exact s.endWell_leavesAlone b
  · exact .refl _ _ s

/-! ### The Scheduler (04) -/

theorem completeFlush_leavesAlone (s : State) : s.LeavesAlone k keeps s.completeFlush :=
  .trans (t := { s with queue := Queue.unmark s.queue })
    (.of_buffers ⟨rfl, rfl, rfl, rfl, rfl, rfl, rfl, rfl, rfl, rfl, rfl, rfl, rfl⟩ rfl) (raise_leavesAlone _ .flushDone)

theorem flushRequest_leavesAlone (s : State) : s.LeavesAlone k keeps s.flushRequest := by
  unfold flushRequest
  split
  · exact .of_buffers ⟨rfl, rfl, rfl, rfl, rfl, rfl, rfl, rfl, rfl, rfl, rfl, rfl, rfl⟩ rfl
  · exact s.raise_leavesAlone .flushDone

/-! ### The Pool's freeing (R38) -/

theorem orphanFetch_operation (s : State) (b : Fin 16) :
    (s.orphanFetch b).link.map (·.operation) = s.link.map (·.operation) := by
  unfold orphanFetch
  split
  · rfl
  · rename_i l hl
    split
    · simp only [hl, Option.map_some]
    · rfl

/-- The operation on the link goes on without its requester. -/
theorem orphanFetch_leavesAlone (s : State) (b : Fin 16) : s.LeavesAlone k keeps (s.orphanFetch b) where
  resetHeld := by simp
  straps := by simp
  phase := by simp
  outcome := by simp
  configuration _ := by simp
  supply _ := by simp
  link _ := ⟨by simp, s.orphanFetch_operation b⟩
  port _ _ := by simp
  bytes _ _ := .of_eq (by simp)

theorem freeBuffer_leavesAlone (s : State) (b : Fin 16) : s.LeavesAlone k false (s.freeBuffer b) := by
  have cleared (u : State) : u.LeavesAlone k false { ((u.cancelFetch b).orphanFetch b).setBuffer b PageBuffer.freed with
      recency := ((u.cancelFetch b).orphanFetch b).recency.erase b } :=
    .trans ((u.cancelFetch_leavesAlone b).trans (orphanFetch_leavesAlone _ b))
      (.of_frame ⟨rfl, rfl, rfl, rfl, rfl, rfl, rfl, rfl, rfl, rfl, rfl, rfl, rfl⟩ nofun)
  unfold freeBuffer
  dsimp only
  split
  · exact (s.removeEntry_leavesAlone b).trans (cleared _)
  · exact cleared s

theorem freeIfUnknown_leavesAlone (s : State) (b : Fin 16) : s.LeavesAlone k false (s.freeIfUnknown b) := by
  unfold freeIfUnknown
  split
  · exact s.freeBuffer_leavesAlone b
  · exact .refl _ _ s

/-! ### Answers to an access, and its withdrawal (R7, R8, R43) -/

theorem waiting_of_status {s : State} {a : Access} {w : Wait} (ha : s.port.access = some a) (hw : a.status = .pending w) :
    s.waiting ≠ none := by
  rw [State.waiting_of_pending ha hw]
  exact Option.some_ne_none w

/-- The Port alone is written. -/
theorem LeavesAlone.of_port {s : State} (p : Port) : s.LeavesAlone .hostBus false { s with port := p } :=
  { LeavesAlone.refl .hostBus false s with
    port := fun _ h => nomatch h rfl
    bytes := fun _ h => nomatch h }

theorem complete_leavesAlone (s : State) (v : Byte) : s.LeavesAlone k keeps (s.complete v) := by
  unfold complete
  split
  · exact .refl _ _ s
  · rename_i a ha
    split
    · exact .refl _ _ s
    · rename_i w hw
      exact .of_waiting (waiting_of_status ha hw) (.of_port _)

theorem refuse_leavesAlone (s : State) (c : Cause) : s.LeavesAlone k keeps (s.refuse c) := by
  unfold refuse
  split
  · exact .refl _ _ s
  · rename_i a ha
    split
    · exact .refl _ _ s
    · rename_i w hw
      exact .of_waiting (waiting_of_status ha hw) (.trans (.of_port _) (raise_leavesAlone _ .accessFault))

theorem ownerHears_leavesAlone (s : State) : s.LeavesAlone k keeps s.ownerHears := by
  unfold ownerHears
  split
  · rename_i b hw
    split
    · exact .of_waiting (by rw [hw]; exact Option.some_ne_none _)
        ((s.cancelFetch_leavesAlone b).trans (freeIfUnknown_leavesAlone _ b))
    · exact .refl _ _ s
  · exact .refl _ _ s

theorem portRefuses_leavesAlone (s : State) (c : Cause) : s.LeavesAlone k keeps (s.portRefuses c) :=
  s.ownerHears_leavesAlone.trans (refuse_leavesAlone _ c)

/-! ### The Window (07) -/

theorem streamIdle_leavesAlone (s : State) : s.LeavesAlone k keeps s.streamIdle := .of_buffers (by simp) (by simp)

theorem planRefill_leavesAlone (s : State) : s.LeavesAlone k keeps s.planRefill := .of_buffers (by simp) (by simp)

theorem setStream_leavesAlone (s : State) (x : Stream) : s.LeavesAlone k keeps (s.setStream x) :=
  .of_buffers (by simp) (by simp)

theorem serveStream_leavesAlone (s : State) : s.LeavesAlone k keeps s.serveStream := by
  unfold serveStream
  split
  · dsimp only
    split
    · exact (s.complete_leavesAlone _).trans (setStream_leavesAlone _ _)
    · exact (s.complete_leavesAlone _).trans ((setStream_leavesAlone _ _).trans (planRefill_leavesAlone _))
  · exact .refl _ _ s

end State
end Sys2Proof.Machine
end

section
/-! PROOFS. The answers to an access and the consequences of a step leave the blocks alone that no access writes (R4, R6, R51,
R81, R139); the rows of the host bus, of commits and of the supply. -/
namespace Sys2Proof.Machine
namespace State

/-! ### An access that is handed off (R6) -/

/-- What an access may write: the Port, the watches, the pool, the queue, the requests, the stream. -/
theorem LeavesAlone.of_access {s t : State} (h : t.resetHeld = s.resetHeld ∧ t.straps = s.straps ∧ t.startup = s.startup ∧
    t.management = s.management ∧ t.regions = s.regions ∧ t.settings = s.settings ∧ t.part = s.part ∧
    t.supply = s.supply ∧ t.devices = s.devices ∧ t.link = s.link ∧ t.flags = s.flags) : s.LeavesAlone .hostBus false t := by
  obtain ⟨resetHeld, straps, startup, management, regions, settings, part, supply, devices, link, flags⟩ := h
  exact
    { resetHeld := resetHeld
      straps := straps
      phase := by rw [startup]
      outcome := by rw [startup]
      configuration := fun _ => ⟨management, regions, settings, by rw [flags]; exact fun _ h => h⟩
      supply := fun _ => ⟨part, by rw [supply], by rw [supply], by rw [supply]⟩
      link := fun _ => ⟨devices, by rw [link]⟩
      port := fun _ h => nomatch h rfl
      bytes := fun _ h => nomatch h }

theorem waitOn_leavesAlone (s : State) (w : Wait) : s.LeavesAlone .hostBus false (s.waitOn w) := .of_access (by simp)

theorem touch_leavesAlone (s : State) (b : Fin 16) : s.LeavesAlone .hostBus false (s.touch b) := .of_access (by simp)

theorem allocate_leavesAlone (s : State) (b : Fin 16) (g : Tag) : s.LeavesAlone .hostBus false (s.allocate b g) := by
  unfold allocate
  dsimp only
  split
  · exact .of_access (by simp)
  · exact (s.freeBuffer_leavesAlone b).trans (.of_access (by simp))

theorem waitForBuffer_leavesAlone (s : State) : s.LeavesAlone .hostBus false s.waitForBuffer := by
  have pressed := s.raise_leavesAlone (k := .hostBus) (keeps := false) .pressure
  unfold waitForBuffer
  dsimp only
  split
  · exact pressed.trans (refuse_leavesAlone _ _)
  · exact pressed.trans (waitOn_leavesAlone _ _)

theorem readResident_leavesAlone (s : State) (b : Fin 16) (d : Decode) :
    s.LeavesAlone .hostBus false (s.readResident b d) := by
  unfold readResident
  split
  · exact (s.touch_leavesAlone b).trans (complete_leavesAlone _ _)
  · split
    · exact s.refuse_leavesAlone _
    · refine .trans ?_ (waitOn_leavesAlone _ _)
      split
      · exact .refl _ _ s
      · exact s.requestFetch_leavesAlone b

theorem readAbsent_leavesAlone (s : State) (d : Decode) : s.LeavesAlone .hostBus false (s.readAbsent d) := by
  unfold readAbsent
  split
  · exact s.refuse_leavesAlone _
  · split
    · exact s.waitForBuffer_leavesAlone
    · exact (s.allocate_leavesAlone _ _).trans ((requestFetch_leavesAlone _ _).trans (waitOn_leavesAlone _ _))

theorem resolveRead_leavesAlone (s : State) (d : Decode) : s.LeavesAlone .hostBus false (s.resolveRead d) := by
  unfold resolveRead
  split
  · exact s.readResident_leavesAlone _ d
  · exact s.readAbsent_leavesAlone d

theorem completeWatch_leavesAlone (address : HostAddress) (v : Byte) (b : Fin 16) (s : State) (n : Fin 8) :
    s.LeavesAlone .hostBus false (completeWatch address v b s n) := by
  have tested : s.LeavesAlone .hostBus false
      { s with watches := s.watches.set n { s.watches[n] with lastMatch := s.watches[n].isMatch v } } :=
    .of_access ⟨rfl, rfl, rfl, rfl, rfl, rfl, rfl, rfl, rfl, rfl, rfl⟩
  unfold completeWatch
  dsimp only
  split
  · split
    · refine tested.trans ((raise_leavesAlone _ (.watch n)).trans ?_)
      split <;> split <;> exact .of_access (by simp)
    · exact tested
  · exact .refl _ _ s

theorem completeWatches_leavesAlone (s : State) (address : HostAddress) (v : Byte) (b : Fin 16) :
    s.LeavesAlone .hostBus false (s.completeWatches address v b) :=
  .foldl (completeWatch_leavesAlone address v b) _ s

theorem finishWrite_leavesAlone (s : State) (b : Fin 16) (address : HostAddress) (d : Decode) (v : Byte) :
    s.LeavesAlone .hostBus false (s.finishWrite b address d v) := by
  have followed : s.LeavesAlone .hostBus false ((s.completeWatches address v b).streamWritten d.device d.address) :=
    (s.completeWatches_leavesAlone address v b).trans (.of_access (by simp))
  unfold finishWrite
  dsimp only
  split
  · exact followed.trans (.of_access (by simp))
  · exact followed.trans (complete_leavesAlone _ _)

theorem resolveWrite_leavesAlone (s : State) (address : HostAddress) (d : Decode) (v : Byte) :
    s.LeavesAlone .hostBus false (s.resolveWrite address d v) := by
  have placed (u : State) (b : Fin 16) : u.LeavesAlone .hostBus false ((u.placeByte b d v).finishWrite b address d v) :=
    .trans (.of_access (by simp)) (finishWrite_leavesAlone _ _ _ _ _)
  unfold resolveWrite
  split
  · exact placed s _
  · split
    · exact s.waitForBuffer_leavesAlone
    · exact (s.allocate_leavesAlone _ _).trans (placed _ _)

theorem checkedWrite_leavesAlone (s : State) (address : HostAddress) (d : Decode) (v : Byte) :
    s.LeavesAlone .hostBus false (s.checkedWrite address d v) := by
  unfold checkedWrite
  split
  · exact s.resolveWrite_leavesAlone address d v
  · split
    · split
      · exact s.refuse_leavesAlone _
      · exact .of_access (by simp)
    · exact s.resolveWrite_leavesAlone address d v

theorem writePath_leavesAlone (s : State) (address : HostAddress) (d : Decode) (v : Byte) :
    s.LeavesAlone .hostBus false (s.writePath address d v) :=
  .trans (.of_access (by simp)) (checkedWrite_leavesAlone _ _ _ _)

theorem streamRead_leavesAlone (s : State) (address : HostAddress) (d : Decode) :
    s.LeavesAlone .hostBus false (s.streamRead address d) := by
  have set : s.LeavesAlone .hostBus false (s.resynchronise address d) := .of_access (by simp)
  have demanded : s.LeavesAlone .hostBus false s.demandStream := by
    unfold demandStream
    split
    · exact s.refuse_leavesAlone _
    · split
      · exact s.waitOn_leavesAlone _
      · exact (s.waitOn_leavesAlone _).trans (planRefill_leavesAlone _)
  unfold streamRead
  split
  · exact set
  · split
    · split
      · exact demanded
      · exact s.serveStream_leavesAlone
    · exact set

theorem toOwner_leavesAlone (s : State) (a : Access) (d : Decode) : s.LeavesAlone .hostBus false (s.toOwner a d) := by
  unfold toOwner
  split
  · exact s.streamRead_leavesAlone _ d
  · exact s.resolveRead_leavesAlone d
  · exact s.resolveRead_leavesAlone d
  · exact s.resolveRead_leavesAlone d
  · exact s.refuse_leavesAlone _
  · exact s.refuse_leavesAlone _
  · exact s.writePath_leavesAlone _ d _
  · exact .trans (.of_access (by simp)) (writePath_leavesAlone _ _ d _)

theorem handOff_leavesAlone (s : State) : s.LeavesAlone .hostBus false s.handOff := by
  unfold handOff
  split
  · exact .refl _ _ s
  · split
    · exact .trans (.of_access (by simp)) (refuse_leavesAlone _ _)
    · exact .trans (.of_access (by simp)) (toOwner_leavesAlone _ _ _)

theorem receive_leavesAlone (s : State) : s.LeavesAlone .hostBus false s.receive := by
  unfold receive
  split
  · exact s.handOff_leavesAlone
  · exact .refl _ _ s
  · exact s.refuse_leavesAlone _

theorem resolveAgain_leavesAlone {s t : State} (h : s.resolveAgain = some t) : s.LeavesAlone .hostBus false t := by
  unfold resolveAgain at h
  split at h
  · cases h
  · split at h
    · cases h
      exact s.resolveRead_leavesAlone _
    · cases h
      exact s.resolveWrite_leavesAlone _ _ _
    · cases h

/-! ### The consequences of a step -/

variable {k : CommandClass} {keeps : Bool}

theorem drawn_leavesAlone {s t : State} (h : Drawn s t) (hdone : s.startup.phase = .done) : s.LeavesAlone k keeps t := by
  cases h with
  | refused c _ => exact s.refuse_leavesAlone c
  | completed b _ _ => exact s.complete_leavesAlone 0
  | resolved _ hw ht =>
    refine .of_waiting (fun hn => ?_) (resolveAgain_leavesAlone ht)
    rw [hn] at hw
    cases hw
  | served _ _ => exact s.serveStream_leavesAlone
  | flushed _ => exact s.completeFlush_leavesAlone
  | stopped b _ _ => exact s.stopCommit_leavesAlone b
  | started b _ => exact s.startCommit_leavesAlone b
  | handedOver b _ => exact s.becomeFailed_leavesAlone b
  | probed h _ => rw [hdone] at h; cases h
  | startedUp h _ => rw [hdone] at h; rcases h with h | h <;> cases h

theorem settle_leavesAlone {s : State} (hdone : s.startup.phase = .done) : s.LeavesAlone k keeps s.settle :=
  settle_induct (P := fun t => s.LeavesAlone k keeps t)
    (fun _ _ hu hd => hu.trans (drawn_leavesAlone hd (hu.phase.trans hdone))) (.refl k keeps s)

/-- In service the end of a step leaves alone what any command leaves alone. -/
theorem conclude_leavesAlone {s : State} (hdone : s.startup.phase = .done) (before : State) :
    s.LeavesAlone k keeps (s.conclude before) := by
  have settled : s.LeavesAlone k keeps s.settle := settle_leavesAlone hdone
  unfold State.conclude noteShort
  split
  · exact settled.trans (raise_leavesAlone _ _)
  · exact settled

/-- A row whose own effect leaves the other blocks alone. -/
theorem LeavesAlone.act {s : State} {f : State → State} (hs : s.inService) (h : s.LeavesAlone k keeps (f s)) :
    ∃ t, s.act f = .next t ∧ s.LeavesAlone k keeps t := by
  obtain ⟨hr, hdone⟩ := hs
  exact ⟨_, State.act_of_released hr f, h.trans (conclude_leavesAlone (h.phase.trans hdone) s)⟩

/-! ### The supply (09) -/

/-- A state of the supply record and of the part. -/
theorem LeavesAlone.of_supply (s : State) (part : PartState) (x : Supply) :
    s.LeavesAlone .supply keeps { s with part := part, supply := x } :=
  { LeavesAlone.refl .supply keeps s with supply := fun h => absurd rfl h }

theorem enterHoldup_leavesAlone (s : State) : s.LeavesAlone .supply keeps s.enterHoldup := by
  refine .trans (.trans (.of_supply s .holdup { s.supply with count := s.settings.budget }) (raise_leavesAlone _ .holdup)) ?_
  exact .trans ((portRefuses_leavesAlone _ .holdup).trans (streamIdle_leavesAlone _))
    (.foldl (fun u b => u.endUnstartedCheck_leavesAlone b) _ _)

theorem supplyLow_leavesAlone (s : State) : s.LeavesAlone .supply keeps s.supplyLow := by
  have low : s.LeavesAlone .supply keeps (s.setSupply .low none none) := .of_supply s s.part _
  unfold supplyLow
  dsimp only
  split
  · exact low.trans (enterHoldup_leavesAlone _)
  · exact low

theorem supplyRecovered_leavesAlone (s : State) : s.LeavesAlone .supply keeps s.supplyRecovered := by
  have normal : s.LeavesAlone .supply keeps (s.setSupply .normal none none) := .of_supply s s.part _
  unfold supplyRecovered
  dsimp only
  split
  · exact normal.trans (.of_supply _ .running _)
  · exact normal

end State

/-! ### The rows -/

theorem exec_supply_leavesAlone {c : Instr} {s : State} (hs : s.inService) (hc : commandClass c = .supply) :
    ∃ t, exec c s = .next t ∧ s.LeavesAlone .supply (keepsBytes c) t := by
  have set (x : SupplyState) (sag recovery : Option Time) : s.LeavesAlone .supply true (s.setSupply x sag recovery) :=
    .of_supply s s.part _
  cases c with
  | supplyBelowWarning =>
    simp only [exec, execSupplyBelowWarning]
    refine State.LeavesAlone.act hs ?_
    split
    · exact set _ _ _
    · exact .refl _ _ s
  | supplyAboveWarning =>
    simp only [exec, execSupplyAboveWarning]
    refine State.LeavesAlone.act hs ?_
    split
    · exact set _ _ _
    · exact .refl _ _ s
  | supplyAboveRecovery =>
    simp only [exec, execSupplyAboveRecovery]
    refine State.LeavesAlone.act hs ?_
    split
    · exact set _ _ _
    · exact .refl _ _ s
  | supplyBelowRecovery =>
    simp only [exec, execSupplyBelowRecovery]
    refine State.LeavesAlone.act hs ?_
    split
    · exact set _ _ _
    · exact .refl _ _ s
  | sagTimerExpiry =>
    simp only [exec, execSagTimerExpiry]
    refine State.LeavesAlone.act hs ?_
    split
    · exact (s.advanceTo_leavesAlone _).trans (State.supplyLow_leavesAlone _)
    · exact .refl _ _ s
  | recoveryTimerExpiry =>
    simp only [exec, execRecoveryTimerExpiry]
    refine State.LeavesAlone.act hs ?_
    split
    · exact (s.advanceTo_leavesAlone _).trans (State.supplyRecovered_leavesAlone _)
    · exact .refl _ _ s
  | _ => cases hc

theorem exec_commits_leavesAlone {c : Instr} {s : State} (hs : s.inService) (hc : commandClass c = .commits) :
    ∃ t, exec c s = .next t ∧ s.LeavesAlone .commits (keepsBytes c) t := by
  have line (low : Bool) : s.LeavesAlone .commits true { s with flushreqLow := low } :=
    .of_buffers ⟨rfl, rfl, rfl, rfl, rfl, rfl, rfl, rfl, rfl, rfl, rfl, rfl, rfl⟩ rfl
  cases c with
  | commitStart b =>
    simp only [exec, execCommitStart]
    refine State.LeavesAlone.act hs ?_
    split
    · exact s.startCommit_leavesAlone b
    · exact .refl _ _ s
  | absentHandover b =>
    simp only [exec, execAbsentHandover]
    refine State.LeavesAlone.act hs ?_
    split
    · exact s.becomeFailed_leavesAlone b
    · exact .refl _ _ s
  | ageDeadline b =>
    simp only [exec, execAgeDeadline]
    refine State.LeavesAlone.act hs ?_
    split
    · exact .refl _ _ s
    · exact (s.advanceTo_leavesAlone _).trans (.trans State.setBuffer_leavesAlone
        (.of_buffers ⟨rfl, rfl, rfl, rfl, rfl, rfl, rfl, rfl, rfl, rfl, rfl, rfl, rfl⟩ rfl))
  | flushreqFall =>
    obtain ⟨hr, -⟩ := id hs
    have row : exec .flushreqFall s = s.act fun s => if s.flushreqLow then s else { s with flushreqLow := true }.flushRequest :=
      if_neg (by rw [hr]; exact Bool.false_ne_true)
    rw [row]
    refine State.LeavesAlone.act hs ?_
    split
    · exact .refl _ _ s
    · exact (line true).trans (State.flushRequest_leavesAlone _)
  | flushreqRise => exact ⟨_, rfl, line false⟩
  | _ => cases hc

theorem exec_hostBus_leavesAlone {c : Instr} {s : State} (hs : s.inService) (hc : commandClass c = .hostBus) :
    ∃ t, exec c s = .next t ∧ s.LeavesAlone .hostBus (keepsBytes c) t := by
  cases c with
  | hostAccessStart edge ceLow address data =>
    simp only [exec, execHostAccessStart]
    refine State.LeavesAlone.act hs ?_
    split
    · split
      · exact .trans (.of_port _) (State.receive_leavesAlone _)
      · exact .refl _ _ s
    · exact .refl _ _ s
  | hostAccessEnd edge =>
    simp only [exec, execHostAccessEnd]
    refine State.LeavesAlone.act hs ?_
    split
    · exact .refl _ _ s
    · split
      · exact s.ownerHears_leavesAlone.trans (.of_port _)
      · exact .refl _ _ s
  | waitDeadline =>
    simp only [exec, execWaitDeadline]
    refine State.LeavesAlone.act hs ?_
    split
    · exact .refl _ _ s
    · exact s.advanceTo_leavesAlone _
  | holdDeadline =>
    simp only [exec, execHoldDeadline]
    refine State.LeavesAlone.act hs ?_
    split
    · exact (s.advanceTo_leavesAlone _).trans (State.portRefuses_leavesAlone _ _)
    · exact .refl _ _ s
  | _ => cases hc

end Sys2Proof.Machine
end

section
/-! PROOFS. The rows of the page link: what the end of a transfer, a poll, a probe and a timeout leave alone, and that no device
but the row's own changes its record (R116–R123, R128, R129). -/
namespace Sys2Proof.Machine
namespace State

variable {k : CommandClass} {keeps : Bool}

/-! ### Fetches, bursts and failed operations -/

theorem answerRead_leavesAlone (s : State) (b : Fin 16) (d : Decode) : s.LeavesAlone .hostBus false (s.answerRead b d) :=
  (s.touch_leavesAlone b).trans (complete_leavesAlone _ _)

theorem fetchAnswered_leavesAlone (s : State) (b : Fin 16) (data : PageBytes) :
    s.LeavesAlone k false (s.fetchAnswered b data) := by
  have merged : s.LeavesAlone k false (s.setBuffer b (s.buffers[b].merge data)) := s.putBuffer_leavesAlone b _
  unfold fetchAnswered
  split
  · rename_i b' d hw hd
    split
    · refine merged.trans (.of_waiting ?_ (answerRead_leavesAlone _ b d))
      rw [waiting_congr (s := s) (by simp), hw]
      exact Option.some_ne_none _
    · exact merged
  · exact merged

theorem fetchComplete_leavesAlone (s : State) (b : Fin 16) (data : PageBytes) :
    s.LeavesAlone k false (s.fetchComplete b data) := by
  change s.LeavesAlone k false
    (if (s.fetchAnswered b data).engineWaits b then (s.fetchAnswered b data).enterSend b else s.fetchAnswered b data)
  refine (s.fetchAnswered_leavesAlone b data).trans ?_
  split
  · exact enterSend_leavesAlone _ b
  · exact .refl _ _ _

theorem fetchFailed_leavesAlone (s : State) (b : Fin 16) (x : Stall) : s.LeavesAlone k false (s.fetchFailed b x) := by
  have unpinned : s.LeavesAlone k false (s.setBuffer b { s.buffers[b] with fill := false }) := setBuffer_leavesAlone
  have counted (u : State) : u.LeavesAlone k false ((if u.engineWaits b then u.fillFailed b else u).freeIfUnknown b) := by
    refine .trans ?_ (freeIfUnknown_leavesAlone _ b)
    split
    · exact u.fillFailed_leavesAlone b
    · exact .refl _ _ u
  unfold fetchFailed
  dsimp only
  refine .trans ?_ (counted _)
  split
  · exact unpinned.trans (refuse_leavesAlone _ _)
  · exact unpinned

theorem burstComplete_leavesAlone (s : State) (data : Vector Byte 16) : s.LeavesAlone k keeps (s.burstComplete data) := by
  unfold burstComplete
  split
  · exact .refl _ _ s
  · dsimp only
    split
    · exact (s.setStream_leavesAlone _).trans (planRefill_leavesAlone _)
    · split
      · exact (s.setStream_leavesAlone _).trans (serveStream_leavesAlone _)
      · exact (s.setStream_leavesAlone _).trans (planRefill_leavesAlone _)

theorem burstFailed_leavesAlone (s : State) (x : Stall) : s.LeavesAlone k keeps (s.burstFailed x) := by
  unfold burstFailed
  split
  · exact .refl _ _ s
  · refine .trans ?_ (planRefill_leavesAlone _)
    split
    · exact (s.setStream_leavesAlone _).trans (refuse_leavesAlone _ _)
    · exact s.setStream_leavesAlone _

theorem operationFailed_leavesAlone (s : State) (l : LinkOperation) (x : Stall) :
    s.LeavesAlone k false (s.operationFailed l x) := by
  unfold operationFailed
  split
  case h_1 b _ =>
    split
    · exact s.fetchFailed_leavesAlone b x
    · exact .refl _ _ s
  case h_2 => exact s.burstFailed_leavesAlone x
  case h_3 b _ =>
    split
    · exact s.sendFailed_leavesAlone b
    · exact .refl _ _ s
  case h_4 b _ =>
    split
    · exact s.checkFailed_leavesAlone b
    · exact .refl _ _ s
  all_goals exact .refl _ _ s

theorem endOperation_leavesAlone (s : State) (o : Operation) : s.LeavesAlone k false (s.endOperation o) := by
  unfold endOperation
  split
  case h_1 b _ =>
    have ended (u : State) : u.LeavesAlone k false ((if u.engineWaits b then u.endDirty b else u).freeIfUnknown b) := by
      refine .trans ?_ (freeIfUnknown_leavesAlone _ b)
      split
      · exact u.endDirty_leavesAlone b
      · exact .refl _ _ u
    dsimp only
    refine .trans ?_ (ended _)
    split
    · exact (s.cancelFetch_leavesAlone b).trans (refuse_leavesAlone _ _)
    · exact s.cancelFetch_leavesAlone b
  case h_2 => exact (s.withdraw_leavesAlone _ _).trans (burstFailed_leavesAlone _ _)
  case h_3 b _ =>
    split
    · exact s.endDirty_leavesAlone b
    · exact s.withdraw_leavesAlone _ _
  case h_4 b _ =>
    split
    · exact s.endDirty_leavesAlone b
    · exact s.withdraw_leavesAlone _ _
  case h_5 => exact s.withdraw_leavesAlone _ _
  case h_6 => exact .refl _ _ s
  case h_7 => exact s.withdraw_leavesAlone _ _

theorem endOperations_leavesAlone (s : State) (d : Fin 4) : s.LeavesAlone k false (s.endOperations d) :=
  .foldl (fun u o => u.endOperation_leavesAlone o) _ s

theorem endCommitOf_leavesAlone (s : State) (d : Fin 4) (b : Fin 16) : s.LeavesAlone k keeps (s.endCommitOf d b) := by
  unfold endCommitOf
  split
  · exact s.endDirty_leavesAlone b
  · exact .refl _ _ s

theorem freeCleanOf_leavesAlone (s : State) (d : Fin 4) (b : Fin 16) : s.LeavesAlone k false (s.freeCleanOf d b) := by
  unfold freeCleanOf
  split
  · exact s.freeBuffer_leavesAlone b
  · exact .refl _ _ s

/-! ### A step of the page link on one device -/

/-- What a row of the page link that acts on device `d` leaves alone: the record of every other device too. -/
structure LinkStep (d : Fin 4) (keeps : Bool) (s t : State) : Prop where
  alone : ∀ device, s.LeavesAlone (.pageLink device) keeps t
  others : ∀ e : Fin 4, e ≠ d → t.devices[e] = s.devices[e]

namespace LinkStep

variable {d : Fin 4} {s t u : State}

theorem trans (h : s.LinkStep d keeps t) (h' : t.LinkStep d keeps u) : s.LinkStep d keeps u :=
  ⟨fun x => (h.alone x).trans (h'.alone x), fun e he => (h'.others e he).trans (h.others e he)⟩

/-- What every class leaves alone, the link's rows do, and it writes no device record. -/
theorem of_leavesAlone (h : ∀ k, s.LeavesAlone k keeps t) : s.LinkStep d keeps t := by
  refine ⟨fun x => h (.pageLink x), fun e _ => ?_⟩
  obtain ⟨devices, -⟩ := (h .commits).link (.inr (.inl rfl))
  rw [devices]

theorem refl (d : Fin 4) (keeps : Bool) (s : State) : s.LinkStep d keeps s := .of_leavesAlone fun k => .refl k keeps s

/-- The record of the row's device and the operation on the link are replaced. -/
theorem of_link (s : State) (d : Fin 4) (x : Device) (l : Option LinkOperation) :
    s.LinkStep d keeps { s with devices := s.devices.set d x, link := l } where
  alone device := { LeavesAlone.refl (.pageLink device) keeps s with
    link := fun h => by rcases h with h | h | h <;> cases h }
  others e he := (vector_set_fin s.devices d e x).trans (if_neg he)

theorem act {f : State → State} (hs : s.inService) (h : s.LinkStep d keeps (f s)) :
    ∃ t, s.act f = .next t ∧ s.LinkStep d keeps t := by
  obtain ⟨hr, hdone⟩ := hs
  exact ⟨_, State.act_of_released hr f,
    h.trans (.of_leavesAlone fun _ => conclude_leavesAlone (((h.alone none).phase).trans hdone) s)⟩

end LinkStep

theorem setDevice_linkStep (s : State) (d : Fin 4) (x : Device) : s.LinkStep d keeps (s.setDevice d x) :=
  .of_link s d x s.link

/-- The operation on the link is replaced, or gone. -/
theorem setLink_linkStep (s : State) (d : Fin 4) (l : Option LinkOperation) : s.LinkStep d keeps { s with link := l } where
  alone device := { LeavesAlone.refl (.pageLink device) keeps s with
    link := fun h => by rcases h with h | h | h <;> cases h }
  others _ _ := rfl

theorem freeLink_linkStep (s : State) (l : LinkOperation) (d : Fin 4) : s.LinkStep d keeps (s.freeLink l) :=
  .trans (.of_leavesAlone fun _ => s.advanceTo_leavesAlone l.endTime) (setLink_linkStep _ d none)

theorem moveCounter_linkStep (s : State) (l : LinkOperation) (address : Nat) :
    s.LinkStep l.operation.device keeps (s.moveCounter l address) := by
  unfold moveCounter
  dsimp only
  split
  · exact s.setDevice_linkStep _ _
  · exact s.setDevice_linkStep _ _

theorem readCompleted_linkStep (s : State) (l : LinkOperation) : s.LinkStep l.operation.device keeps (s.readCompleted l) :=
  (s.freeLink_linkStep l _).trans (moveCounter_linkStep _ l _)

theorem deviceStuck_linkStep (s : State) (d : Fin 4) : s.LinkStep d keeps (s.deviceStuck d) :=
  (s.setDevice_linkStep d _).trans (.of_leavesAlone fun _ => raise_leavesAlone _ .deviceFault)

theorem deviceAbsent_linkStep (s : State) (d : Fin 4) : s.LinkStep d false (s.deviceAbsent d) := by
  unfold deviceAbsent
  dsimp only
  refine .trans (.trans ?_ (setDevice_linkStep _ d _)) (.of_leavesAlone fun _ => (endOperations_leavesAlone _ d).trans
    (.trans (.foldl (fun u b => u.endCommitOf_leavesAlone d b) _ _) (.foldl (fun u b => u.freeCleanOf_leavesAlone d b) _ _)))
  refine .of_leavesAlone fun _ => .trans (.trans ?_ (withdraw_leavesAlone _ .probeSelect d)) (withdraw_leavesAlone _ .poll d)
  split
  · exact .refl _ _ s
  · exact s.raise_leavesAlone .deviceFault

theorem lastAttemptFailed_linkStep (s : State) (l : LinkOperation) (selectErrors : Nat) :
    s.LinkStep l.operation.device false (s.lastAttemptFailed l selectErrors) := by
  have free := s.setLink_linkStep (keeps := false) l.operation.device none
  have failed (u : State) (x : Stall) : u.LinkStep l.operation.device false (u.operationFailed l x) :=
    .of_leavesAlone fun _ => u.operationFailed_leavesAlone l x
  unfold lastAttemptFailed
  dsimp only
  split
  · split
    · exact free.trans (failed _ _)
    · exact free.trans ((deviceStuck_linkStep _ _).trans ((failed _ _).trans
        (.of_leavesAlone fun _ => endOperations_leavesAlone _ _)))
  · exact free.trans (failed _ _)

theorem transferBroken_linkStep (s : State) (l : LinkOperation) (i : Nat) :
    s.LinkStep l.operation.device false (s.transferBroken l i) := by
  have broken (time : Time) : s.LinkStep l.operation.device false ((s.advanceTo time).setDevice l.operation.device
      { (s.advanceTo time).devices[l.operation.device] with counter := none }) :=
    .trans (.of_leavesAlone fun _ => s.advanceTo_leavesAlone time) (setDevice_linkStep _ _ _)
  unfold transferBroken
  dsimp only
  split
  · exact (broken _).trans (setLink_linkStep _ _ _)
  · exact (broken _).trans (lastAttemptFailed_linkStep _ l _)

theorem pollAcknowledged_linkStep (s : State) (d : Fin 4) : s.LinkStep d keeps (s.pollAcknowledged d) := by
  unfold pollAcknowledged
  split
  · dsimp only
    split
    · exact (s.setDevice_linkStep d _).trans (.of_leavesAlone fun _ => endBusy_leavesAlone _ _)
    · exact s.setDevice_linkStep d _
  · exact s.setDevice_linkStep d _
  · exact .refl d _ s
  · exact .refl d _ s

theorem pollRefused_linkStep (s : State) (d : Fin 4) : s.LinkStep d keeps (s.pollRefused d) := by
  unfold pollRefused
  split
  · exact s.setDevice_linkStep d _
  · exact s.setDevice_linkStep d _
  · exact .refl d _ s
  · exact .refl d _ s

theorem programTimedOut_linkStep (s : State) (d : Fin 4) : s.LinkStep d false (s.programTimedOut d) := by
  unfold programTimedOut
  dsimp only
  refine .trans ?_ (.of_leavesAlone fun _ => endOperations_leavesAlone _ d)
  split
  · exact (s.deviceStuck_linkStep d).trans (.of_leavesAlone fun _ => becomeFailed_leavesAlone _ _)
  · exact s.deviceStuck_linkStep d

theorem probeRefused_linkStep (s : State) (d : Fin 4) : s.LinkStep d false (s.probeRefused d) := by
  unfold probeRefused
  split
  · exact .refl d _ s
  · split
    · exact s.deviceAbsent_linkStep d
    · exact s.setDevice_linkStep d _

theorem enterBusy_linkStep (s : State) (b : Fin 16) (d : Fin 4) : s.LinkStep d keeps (s.enterBusy b d) := by
  have released (u : State) : u.LinkStep d keeps (u.releaseSpan d) := .of_leavesAlone fun _ => .of_buffers (by simp) (by simp)
  have busy : s.LinkStep d keeps (s.setBuffer b { s.buffers[b] with stage := some .busy }) :=
    .of_leavesAlone fun _ => setBuffer_leavesAlone
  exact busy.trans ((setDevice_linkStep _ d _).trans (released _))

theorem arbiterStart_linkStep (s : State) (d : Fin 4) : s.LinkStep d keeps s.arbiterStart := by
  unfold arbiterStart
  split
  · exact (setLink_linkStep s d _).trans
      (.of_leavesAlone fun _ => .of_buffers ⟨rfl, rfl, rfl, rfl, rfl, rfl, rfl, rfl, rfl, rfl, rfl, rfl, rfl⟩ rfl)
  · exact .refl d _ s

end State

/-! ### The rows -/

theorem exec_deviceRow_linkStep {c : Instr} {s : State} {d : Fin 4} (hs : s.inService)
    (hc : commandClass c = .pageLink (some d)) : ∃ t, exec c s = .next t ∧ s.LinkStep d (keepsBytes c) t := by
  have advanced (u : State) (time : Time) (keeps : Bool) : u.LinkStep d keeps (u.advanceTo time) :=
    .of_leavesAlone fun _ => u.advanceTo_leavesAlone time
  cases c with
  | pollDue d' =>
    cases hc
    simp only [exec, execPollDue]
    refine State.LinkStep.act hs ?_
    split
    · exact .refl d _ s
    · split
      · exact .refl d _ s
      · exact (advanced s _ _).trans (.of_leavesAlone fun _ => State.request_leavesAlone _ _)
  | programTimeout d' =>
    cases hc
    simp only [exec, execProgramTimeout]
    refine State.LinkStep.act hs ?_
    split
    · exact .refl d _ s
    · split
      · exact (advanced s _ _).trans (State.programTimedOut_linkStep _ d)
      · exact .refl d _ s
  | probeSelectDue d' =>
    cases hc
    simp only [exec, execProbeSelectDue]
    refine State.LinkStep.act hs ?_
    split
    · exact .refl d _ s
    · split
      · exact .refl d _ s
      · exact (advanced s _ _).trans (.of_leavesAlone fun _ => State.request_leavesAlone _ _)
  | probeDeadline d' =>
    cases hc
    simp only [exec, execProbeDeadline]
    refine State.LinkStep.act hs ?_
    split
    · exact .refl d _ s
    · split
      · exact advanced s _ _
      · exact (advanced s _ _).trans (State.deviceAbsent_linkStep _ d)
  | _ => cases hc

/-- A row that ends the attempt on the link acts on the device of that operation. -/
theorem exec_linkRow_linkStep {c : Instr} {s : State} {d : Fin 4} (hs : s.inService) (hc : commandClass c = .pageLink none)
    (hd : ∀ l, s.link = some l → l.operation.device = d) : ∃ t, exec c s = .next t ∧ s.LinkStep d (keepsBytes c) t := by
  cases c with
  | arbiterStart =>
    simp only [exec, execArbiterStart]
    exact State.LinkStep.act hs (s.arbiterStart_linkStep d)
  | pageFetchComplete data =>
    simp only [exec, execPageFetchComplete]
    refine State.LinkStep.act hs ?_
    split
    · exact .refl d _ s
    · rename_i l hl
      obtain rfl := hd l hl
      split
      · split
        · exact (s.readCompleted_linkStep l).trans (.of_leavesAlone fun _ => State.fetchComplete_leavesAlone _ _ data)
        · exact s.readCompleted_linkStep l
      all_goals exact .refl _ _ s
  | transferError byteIndex =>
    simp only [exec, execTransferError]
    refine State.LinkStep.act hs ?_
    split
    · exact .refl d _ s
    · rename_i l hl
      obtain rfl := hd l hl
      split
      case h_1 => exact .refl _ _ s
      case h_2 => exact .refl _ _ s
      all_goals
        split
        · exact s.transferBroken_linkStep l byteIndex
        · exact .refl _ _ s
  | programComplete =>
    simp only [exec, execProgramComplete]
    refine State.LinkStep.act hs ?_
    split
    · exact .refl d _ s
    · rename_i l hl
      obtain rfl := hd l hl
      split
      · refine .trans ((s.freeLink_linkStep l _).trans (State.moveCounter_linkStep _ l (programEndAddress l.operation))) ?_
        split
        · exact State.enterBusy_linkStep _ _ _
        · exact .refl _ _ _
      all_goals exact .refl _ _ s
  | pollAcknowledge =>
    simp only [exec, execPollAcknowledge]
    refine State.LinkStep.act hs ?_
    split
    · exact .refl d _ s
    · rename_i l hl
      obtain rfl := hd l hl
      split
      · exact (s.freeLink_linkStep l _).trans (State.pollAcknowledged_linkStep _ _)
      all_goals exact .refl _ _ s
  | pollRefuse =>
    simp only [exec, execPollRefuse]
    refine State.LinkStep.act hs ?_
    split
    · exact .refl d _ s
    · rename_i l hl
      obtain rfl := hd l hl
      split
      · exact (s.freeLink_linkStep l _).trans (State.pollRefused_linkStep _ _)
      all_goals exact .refl _ _ s
  | checkReadComplete data =>
    simp only [exec, execCheckReadComplete]
    refine State.LinkStep.act hs ?_
    split
    · exact .refl d _ s
    · rename_i l hl
      obtain rfl := hd l hl
      split
      · refine (s.readCompleted_linkStep l).trans (.of_leavesAlone fun _ => ?_)
        split
        · split
          · exact State.endWell_leavesAlone _ _
          · exact State.checkFailed_leavesAlone _ _
        · exact .refl _ _ _
      all_goals exact .refl _ _ s
  | streamReadComplete data =>
    simp only [exec, execStreamReadComplete]
    refine State.LinkStep.act hs ?_
    split
    · exact .refl d _ s
    · rename_i l hl
      obtain rfl := hd l hl
      split
      · exact (s.readCompleted_linkStep l).trans (.of_leavesAlone fun _ => State.burstComplete_leavesAlone _ data)
      all_goals exact .refl _ _ s
  | probeSelectAcknowledge =>
    simp only [exec, execProbeSelectAcknowledge]
    refine State.LinkStep.act hs ?_
    split
    · exact .refl d _ s
    · rename_i l hl
      obtain rfl := hd l hl
      split
      · exact (s.freeLink_linkStep l _).trans (State.setDevice_linkStep _ _ _)
      all_goals exact .refl _ _ s
  | probeSelectRefuse =>
    simp only [exec, execProbeSelectRefuse]
    refine State.LinkStep.act hs ?_
    split
    · exact .refl d _ s
    · rename_i l hl
      obtain rfl := hd l hl
      split
      · exact (s.freeLink_linkStep l _).trans (State.probeRefused_linkStep _ _)
      all_goals exact .refl _ _ s
  | descriptorReadComplete data =>
    simp only [exec, execDescriptorReadComplete]
    refine State.LinkStep.act hs ?_
    split
    · exact .refl d _ s
    · rename_i l hl
      obtain rfl := hd l hl
      split
      · refine (s.readCompleted_linkStep l).trans (.of_leavesAlone fun k => ?_)
        exact { State.LeavesAlone.refl k _ _ with }
      all_goals exact .refl _ _ s
  | _ => cases hc

end Sys2Proof.Machine
end

section
/-! PROOFS. The rows of the Management Link: what an apply and a command leave alone (R25, R31, R146, R172, R177); and what every
command in service leaves alone: O3. -/
namespace Sys2Proof.Machine

/-- The applies that free no buffer. -/
def ApplyKind.keepsBytes : ApplyKind → Bool
  | .settings | .discard | .dropClean => false
  | .region _ | .watch _ | .eventFlagClear | .faultRecordEmpty | .readOnly | .argumentStore | .flush | .barrier | .retry
  | .reprobe | .unknown => true

namespace State

variable {keeps : Bool}

/-- Configuration, flags, devices and watches are the management rows' to write. -/
theorem LeavesAlone.of_management {s t : State} (h : t.resetHeld = s.resetHeld ∧ t.straps = s.straps ∧
    t.startup = s.startup ∧ t.part = s.part ∧ t.supply.state = s.supply.state ∧ t.supply.sagTimer = s.supply.sagTimer ∧
    t.supply.recoveryTimer = s.supply.recoveryTimer ∧ t.port.access = s.port.access ∧ t.port.readByte = s.port.readByte ∧
    t.port.writeLatch = s.port.writeLatch) (hb : t.buffers = s.buffers) : s.LeavesAlone .management keeps t := by
  obtain ⟨resetHeld, straps, startup, part, state, sag, recovery, access, readByte, latch⟩ := h
  exact
    { resetHeld := resetHeld
      straps := straps
      phase := by rw [startup]
      outcome := by rw [startup]
      configuration := fun h => absurd rfl h
      supply := fun _ => ⟨part, state, sag, recovery⟩
      link := fun h => by rcases h with h | h | h <;> cases h
      port := fun _ _ => ⟨access, readByte, latch, fun h => absurd rfl h⟩
      bytes := fun _ _ => .of_eq hb }

theorem setManagement_leavesAlone (s : State) (m : Management) : s.LeavesAlone .management keeps (s.setManagement m) :=
  .of_management (by simp) (by simp)

theorem applied_leavesAlone (s : State) (x : ApplyStatus) : s.LeavesAlone .management keeps (s.applied x) :=
  s.setManagement_leavesAlone _

theorem commanded_leavesAlone (s : State) (x : CommandStatus) : s.LeavesAlone .management keeps (s.commanded x) :=
  s.setManagement_leavesAlone _

theorem takeCommandBytes_leavesAlone (s : State) (x : Shadow) : s.LeavesAlone .management keeps (s.takeCommandBytes x) :=
  s.setManagement_leavesAlone _

/-! ### Applies (R25, R31, R146) -/

theorem applyRegion_leavesAlone (s : State) (n : Fin 8) (x : Shadow) :
    s.LeavesAlone .management keeps (s.applyRegion n x) := by
  unfold applyRegion
  split
  · exact .of_management (by simp) (by simp)
  · exact s.applied_leavesAlone _

theorem applyWatch_leavesAlone (s : State) (n : Fin 8) (x : Shadow) :
    s.LeavesAlone .management keeps (s.applyWatch n x) := by
  unfold applyWatch
  split
  · exact .of_management (by simp) (by simp)
  · exact s.applied_leavesAlone _

theorem freeBeyond_leavesAlone (s : State) (d : Fin 4) (c : Capacity) (b : Fin 16) :
    s.LeavesAlone .management false (s.freeBeyond d c b) := by
  unfold freeBeyond
  split
  · exact s.freeBuffer_leavesAlone b
  · exact .refl _ _ s

theorem streamCapacityChange_leavesAlone (s : State) (d : Fin 4) :
    s.LeavesAlone .management false (s.streamCapacityChange d) := by
  unfold streamCapacityChange
  split
  · refine .trans ?_ (streamIdle_leavesAlone _)
    split
    · exact s.refuse_leavesAlone _
    · exact .refl _ _ s
  · exact .refl _ _ s

theorem loseCounter_leavesAlone (s : State) (d : Fin 4) : s.LeavesAlone .management keeps (s.loseCounter d) := by
  unfold loseCounter
  split
  · exact .refl _ _ s
  · split
    · exact .of_management ⟨rfl, rfl, rfl, rfl, rfl, rfl, rfl, rfl, rfl, rfl⟩ rfl
    · exact .refl _ _ s

theorem changeCapacity_leavesAlone (s : State) (d : Fin 4) (c : Capacity) :
    s.LeavesAlone .management false (s.changeCapacity d c) := by
  have replaced (x : Device) : s.LeavesAlone .management false (s.setDevice d x) := .of_management (by simp) (by simp)
  unfold changeCapacity
  dsimp only
  exact .trans ((replaced _).trans (loseCounter_leavesAlone _ d))
    (.trans (.foldl (fun u b => u.freeBeyond_leavesAlone d c b) _ _) (streamCapacityChange_leavesAlone _ d))

theorem installSettings_leavesAlone (s : State) (x : Settings) (new : Vector Capacity 4) :
    s.LeavesAlone .management false (s.installSettings x new) := by
  have taken : s.LeavesAlone .management false
      { s with settings := x, supply := { s.supply with count := s.countAfterApply x.budget } } :=
    .of_management ⟨rfl, rfl, rfl, rfl, rfl, rfl, rfl, rfl, rfl, rfl⟩ rfl
  refine taken.trans (.foldl (fun u d => ?_) _ _)
  split
  · exact u.changeCapacity_leavesAlone d _
  · exact .refl _ _ u

theorem applySettings_leavesAlone (s : State) (x : Shadow) : s.LeavesAlone .management false (s.applySettings x) := by
  unfold applySettings
  split
  · exact (s.installSettings_leavesAlone _ _).trans (applied_leavesAlone _ _)
  · exact s.applied_leavesAlone _

/-! ### Commands (R177) -/

theorem retryCommand_leavesAlone (s : State) : s.LeavesAlone .management keeps s.retryCommand := by
  have pushed (u : State) (b : Fin 16) : u.LeavesAlone .management keeps (u.givePush b) := .of_buffers (by simp) (by simp)
  unfold retryCommand
  split
  · exact .trans (.trans setBuffer_leavesAlone (pushed _ _)) (commanded_leavesAlone _ _)
  · exact s.commanded_leavesAlone _

theorem discardCommand_leavesAlone (s : State) : s.LeavesAlone .management false s.discardCommand := by
  unfold discardCommand
  split
  · refine .trans (.trans ?_ (freeBuffer_leavesAlone _ _)) (commanded_leavesAlone _ _)
    split
    · exact .of_buffers (by simp) (by simp)
    · exact .refl _ _ s
  · exact s.commanded_leavesAlone _

theorem reprobeCommand_leavesAlone (s : State) : s.LeavesAlone .management keeps s.reprobeCommand := by
  have probed (d : Fin 4) (bound : Time) : s.LeavesAlone .management keeps (s.startProbe d bound) :=
    .of_management (by simp [startProbe]) (by simp [startProbe])
  unfold reprobeCommand
  split
  · exact (probed _ _).trans (commanded_leavesAlone _ _)
  · exact s.commanded_leavesAlone _

theorem dropClean_leavesAlone (s : State) : s.LeavesAlone .management false s.dropClean := by
  refine .foldl (fun u b => ?_) _ s
  split
  · exact u.freeBuffer_leavesAlone b
  · exact .refl _ _ u

theorem applyShadow_leavesAlone (s : State) {x : Shadow} (h : keeps = true → x.kind.keepsBytes = true) :
    s.LeavesAlone .management keeps (s.applyShadow x) := by
  have taken := s.takeCommandBytes_leavesAlone (keeps := keeps) x
  have done (u : State) (hu : s.LeavesAlone .management keeps u) (y : CommandStatus) :
      s.LeavesAlone .management keeps (u.commanded y) := hu.trans (u.commanded_leavesAlone y)
  unfold applyShadow
  generalize x.kind = kind at h
  have frees (hk : kind.keepsBytes = false) : keeps = false := by
    rw [hk] at h
    exact Bool.eq_false_iff.mpr fun hkeeps => nomatch h hkeeps
  cases kind with
  | region n => exact s.applyRegion_leavesAlone n x
  | watch n => exact s.applyWatch_leavesAlone n x
  | settings =>
    obtain rfl := frees rfl
    exact s.applySettings_leavesAlone x
  | eventFlagClear => exact .of_management (by simp) (by simp)
  | faultRecordEmpty => exact .of_management (by simp) (by simp)
  | readOnly => exact s.applied_leavesAlone _
  | argumentStore => exact taken
  | flush => exact done _ (taken.trans (flushRequest_leavesAlone _)) _
  | barrier => exact done _ (taken.trans (.of_buffers (by simp) (by simp))) _
  | retry => exact taken.trans (retryCommand_leavesAlone _)
  | discard =>
    obtain rfl := frees rfl
    exact taken.trans (discardCommand_leavesAlone _)
  | dropClean =>
    obtain rfl := frees rfl
    exact done _ (taken.trans (dropClean_leavesAlone _)) _
  | reprobe => exact taken.trans (reprobeCommand_leavesAlone _)
  | unknown => exact done _ taken _

/-! ### Transactions (R169–R171) -/

theorem closeTransaction_leavesAlone (s : State) : s.LeavesAlone .management keeps s.closeTransaction :=
  s.setManagement_leavesAlone _

theorem endTransaction_leavesAlone (s : State) (h : keeps = true → ∀ x, s.pendingShadow = some x → x.kind.keepsBytes = true) :
    s.LeavesAlone .management keeps s.endTransaction := by
  unfold endTransaction
  split
  · rename_i x hx
    exact (s.applyShadow_leavesAlone fun hk => h hk x hx).trans (closeTransaction_leavesAlone _)
  · exact s.closeTransaction_leavesAlone

theorem openTransaction_leavesAlone (s : State) (v : Byte) : s.LeavesAlone .management keeps (s.openTransaction v) := by
  unfold openTransaction
  split
  · exact s.setManagement_leavesAlone _
  · exact s.setManagement_leavesAlone _

theorem takePointer_leavesAlone (s : State) (v : Byte) : s.LeavesAlone .management keeps (s.takePointer v) := by
  unfold takePointer
  split
  · exact s.setManagement_leavesAlone _
  all_goals exact .refl _ _ s

theorem takeData_leavesAlone (s : State) (v : Byte) : s.LeavesAlone .management keeps (s.takeData v) := by
  unfold takeData
  split
  · exact s.setManagement_leavesAlone _
  all_goals exact .refl _ _ s

theorem sendByte_leavesAlone (s : State) (acknowledged : Bool) :
    s.LeavesAlone .management keeps (s.sendByte acknowledged) := by
  unfold sendByte
  split
  · exact s.setManagement_leavesAlone _
  all_goals exact .refl _ _ s

/-- The row of an apply. -/
theorem applyRow_leavesAlone {s : State} (hs : s.inService) {isKind : ApplyKind → Bool}
    (h : keeps = true → ∀ kind, isKind kind = true → kind.keepsBytes = true) :
    ∃ t, s.applyRow isKind = .next t ∧ s.LeavesAlone .management keeps t := by
  refine LeavesAlone.act hs ?_
  split
  · rename_i x hx
    split
    · rename_i hk
      refine s.endTransaction_leavesAlone fun hkeeps y hy => ?_
      cases hx.symm.trans hy
      exact h hkeeps _ hk
    · exact .refl _ _ s
  · exact .refl _ _ s

/-- The row of one kind of apply. -/
theorem applyRow_leavesAlone_of_eq {s : State} (hs : s.inService) (kind : ApplyKind) (h : keeps = true → kind.keepsBytes = true) :
    ∃ t, s.applyRow (fun k => decide (k = kind)) = .next t ∧ s.LeavesAlone .management keeps t :=
  applyRow_leavesAlone hs fun hkeeps _ hk => of_decide_eq_true hk ▸ h hkeeps

end State

/-! ### The rows -/

theorem exec_managementAddressByte_leavesAlone {s : State} (hs : s.inService) (v : Byte) :
    ∃ t, exec (.managementAddressByte v) s = .next t ∧ s.LeavesAlone .management false t := by
  obtain ⟨hr, hdone⟩ := hs
  have ended : s.LeavesAlone .management false s.endTransaction := s.endTransaction_leavesAlone nofun
  have row : exec (.managementAddressByte v) s = .next ((s.endTransaction.conclude s).openTransaction v) :=
    if_neg (by rw [hr]; exact Bool.false_ne_true)
  exact ⟨_, row, (ended.trans (State.conclude_leavesAlone (ended.phase.trans hdone) s)).trans
    (State.openTransaction_leavesAlone _ v)⟩

theorem exec_management_leavesAlone {c : Instr} {s : State} (hs : s.inService) (hc : commandClass c = .management) :
    ∃ t, exec c s = .next t ∧ s.LeavesAlone .management (keepsBytes c) t := by
  cases c with
  | managementAddressByte v => exact exec_managementAddressByte_leavesAlone hs v
  | pointerByte v =>
    simp only [exec, execPointerByte]
    exact State.LeavesAlone.act hs (s.takePointer_leavesAlone v)
  | dataByte v =>
    simp only [exec, execDataByte]
    exact State.LeavesAlone.act hs (s.takeData_leavesAlone v)
  | managementReadByte acknowledged =>
    simp only [exec, execManagementReadByte]
    exact State.LeavesAlone.act hs (s.sendByte_leavesAlone acknowledged)
  | managementTransactionEnd =>
    simp only [exec, execManagementTransactionEnd]
    exact State.LeavesAlone.act hs (s.endTransaction_leavesAlone nofun)
  | regionApply =>
    refine State.applyRow_leavesAlone hs fun _ kind hk => ?_
    cases kind with
    | region n => rfl
    | _ => cases hk
  | watchApply =>
    refine State.applyRow_leavesAlone hs fun _ kind hk => ?_
    cases kind with
    | watch n => rfl
    | _ => cases hk
  | settingsApply => exact State.applyRow_leavesAlone_of_eq hs .settings nofun
  | eventFlagClear => exact State.applyRow_leavesAlone_of_eq hs .eventFlagClear fun _ => rfl
  | faultRecordEmpty => exact State.applyRow_leavesAlone_of_eq hs .faultRecordEmpty fun _ => rfl
  | readOnlyApply => exact State.applyRow_leavesAlone_of_eq hs .readOnly fun _ => rfl
  | commandArgumentStore => exact State.applyRow_leavesAlone_of_eq hs .argumentStore fun _ => rfl
  | flush => exact State.applyRow_leavesAlone_of_eq hs .flush fun _ => rfl
  | barrier => exact State.applyRow_leavesAlone_of_eq hs .barrier fun _ => rfl
  | retry => exact State.applyRow_leavesAlone_of_eq hs .retry fun _ => rfl
  | discard => exact State.applyRow_leavesAlone_of_eq hs .discard nofun
  | dropClean => exact State.applyRow_leavesAlone_of_eq hs .dropClean nofun
  | reprobe => exact State.applyRow_leavesAlone_of_eq hs .reprobe fun _ => rfl
  | unknownCommand => exact State.applyRow_leavesAlone_of_eq hs .unknown fun _ => rfl
  | _ => cases hc

/-- The device whose record a row of the page link may write. -/
def State.rowDevice (s : State) (c : Instr) : Option (Fin 4) :=
  match commandClass c with
  | .pageLink (some d) => some d
  | .pageLink none => s.link.map (·.operation.device)
  | _ => none

/-- What every row in service leaves alone. -/
theorem exec_leavesAlone {c : Instr} {s : State} (hs : s.inService) (hc : commandClass c ≠ .reset) :
    ∃ t, exec c s = .next t ∧ s.LeavesAlone (commandClass c) (keepsBytes c) t ∧
      ∀ d e : Fin 4, e ≠ d → s.rowDevice c = some d → t.devices[e] = s.devices[e] := by
  unfold State.rowDevice
  rcases hk : commandClass c with _ | device | _ | _ | _ | _
  · obtain ⟨t, ht, h⟩ := exec_hostBus_leavesAlone hs hk
    exact ⟨t, ht, h, nofun⟩
  · cases device with
    | some d =>
      obtain ⟨t, ht, h⟩ := exec_deviceRow_linkStep hs hk
      exact ⟨t, ht, h.alone _, fun d' e he hd => h.others e (by cases hd; exact he)⟩
    | none =>
      obtain ⟨t, ht, h⟩ := exec_linkRow_linkStep (d := (s.link.map (·.operation.device)).getD 0) hs hk
        fun l hl => by rw [hl]; rfl
      refine ⟨t, ht, h.alone _, fun d' e he hd => h.others e ?_⟩
      have hd : s.link.map (·.operation.device) = some d' := hd
      rw [hd]
      exact he
  · obtain ⟨t, ht, h⟩ := exec_commits_leavesAlone hs hk
    exact ⟨t, ht, h, nofun⟩
  · obtain ⟨t, ht, h⟩ := exec_supply_leavesAlone hs hk
    exact ⟨t, ht, h, nofun⟩
  · exact absurd hk hc
  · obtain ⟨t, ht, h⟩ := exec_management_leavesAlone hs hk
    exact ⟨t, ht, h, nofun⟩

/-- No flag is cleared where every flag that was set still is. -/
theorem and_not_eq_zero {x y : BitVec 16} (h : ∀ i, x.getLsbD i = true → y.getLsbD i = true) : x &&& ~~~y = 0 := by
  refine BitVec.eq_of_getLsbD_eq fun i hi => ?_
  change _ = (0#16).getLsbD i
  rw [BitVec.getLsbD_and, BitVec.getLsbD_not, BitVec.getLsbD_zero]
  cases hx : x.getLsbD i with
  | false => rfl
  | true =>
    rw [h i hx]
    simp

/-- Settles O3, class by class of the table: each operation of a row leaves alone what its class does, and so do the
consequences that the step draws. -/
theorem commandsLeaveOtherBlocksAlone : Obligations.CommandsLeaveOtherBlocksAlone := by
  intro c s hs hc
  obtain ⟨t, ht, h, others⟩ := exec_leavesAlone hs hc
  obtain ⟨hr, hdone⟩ := hs
  refine ⟨t, ht, ⟨h.resetHeld.trans hr, h.phase.trans hdone⟩, h.straps, h.outcome, fun hk => ?_, h.supply, h.link,
    fun d e he hd => others d e he ?_, fun hw hk => h.port hw fun hbus => absurd hbus hk, h.bytes⟩
  · obtain ⟨management, regions, settings, flags⟩ := h.configuration hk
    exact ⟨management, regions, settings, and_not_eq_zero flags⟩
  · unfold State.rowDevice
    rcases hd with hd | ⟨hd, hlink⟩
    · rw [hd]
    · rw [hd]
      exact hlink

end Sys2Proof.Machine
end

section
/-! PROOFS. The commit queue under marks and causes: what depends on the entries and their places alone, and where an entry or a
marker stands that is put at the tail (R61, R65, R67, R74, R80). -/
namespace Sys2Proof.Machine

theorem QueueEntry.buffer?_unmark (e : QueueEntry) : e.unmark.buffer? = e.buffer? := by cases e <;> rfl

theorem QueueEntry.buffer?_pushFor (b : Fin 16) (e : QueueEntry) : (e.pushFor b).buffer? = e.buffer? := by cases e <;> rfl

namespace Queue

/-! ### Entries rewritten in their places -/

section Map
variable {f : QueueEntry → QueueEntry} (hf : ∀ e, (f e).buffer? = e.buffer?) (q : List QueueEntry) (b : Fin 16)
include hf

theorem hasEntry_map : hasEntry (q.map f) b = hasEntry q b := by
  simp only [hasEntry, List.any_map, Function.comp_def, QueueEntry.isFor_eq, hf]

theorem any_isMarker_map : (q.map f).any (·.isMarker) = q.any (·.isMarker) := by
  simp only [List.any_map, Function.comp_def, QueueEntry.isMarker_eq, hf]

theorem before_map : before (q.map f) b = (before q b).map f := by
  simp only [before, List.takeWhile_map, Function.comp_def, QueueEntry.isFor_eq, hf]

theorem markerBefore_map : markerBefore (q.map f) b = markerBefore q b := by
  rw [markerBefore, before_map hf, any_isMarker_map hf, markerBefore]

theorem failureSealed_map (failed : Fin 16 → Bool) : failureSealed failed (q.map f) = failureSealed failed q := by
  induction q with
  | nil => rfl
  | cons e q ih =>
    have he := hf e
    have markers := any_isMarker_map hf q
    rw [List.map_cons]
    cases e with
    | buffer b' aged push =>
      generalize f (.buffer b' aged push) = e' at he
      cases e' with
      | buffer b'' aged' push' =>
        cases he
        rw [failureSealed, failureSealed, markers, ih]
      | marker => cases he
    | marker m =>
      generalize f (.marker m) = e' at he
      cases e' with
      | buffer => cases he
      | marker => exact ih

/-- The blocked condition reads the entries, their places and the failed buffers (R74). -/
theorem failureSealed_before_map (failed : Fin 16 → Bool) :
    failureSealed failed (before (q.map f) b) = failureSealed failed (before q b) := by
  rw [before_map hf, failureSealed_map hf]

end Map

/-! ### Queues that differ in flush marks alone -/

@[simp] theorem unmark_unmark (q : List QueueEntry) : unmark (unmark q) = unmark q := by
  rw [unmark, unmark, List.map_map]
  congr 1
  funext e
  cases e <;> rfl

/-- What a queue has without its marks, every queue has that differs from it in marks alone. -/
theorem congr_of_unmark {α : Sort*} {f : List QueueEntry → α} (hf : ∀ q, f (unmark q) = f q) {q q' : List QueueEntry}
    (h : unmark q' = unmark q) : f q' = f q := by
  rw [← hf q', h, hf]

theorem pushed_congr {q q' : List QueueEntry} (h : unmark q' = unmark q) (b : Fin 16) : pushed q' b = pushed q b := by
  refine congr_of_unmark (f := (pushed · b)) (fun q => ?_) h
  simp only [pushed, unmark, List.any_map]
  congr 1
  funext e
  cases e <;> rfl

theorem aged_congr {q q' : List QueueEntry} (h : unmark q' = unmark q) (b : Fin 16) : aged q' b = aged q b := by
  refine congr_of_unmark (f := (aged · b)) (fun q => ?_) h
  simp only [aged, unmark, List.any_map]
  congr 1
  funext e
  cases e <;> rfl

theorem markerBefore_congr {q q' : List QueueEntry} (h : unmark q' = unmark q) (b : Fin 16) :
    markerBefore q' b = markerBefore q b :=
  congr_of_unmark (f := (markerBefore · b)) (fun q => markerBefore_map QueueEntry.buffer?_unmark q b) h

theorem failureSealed_before_congr {q q' : List QueueEntry} (h : unmark q' = unmark q) (failed : Fin 16 → Bool) (b : Fin 16) :
    failureSealed failed (before q' b) = failureSealed failed (before q b) :=
  congr_of_unmark (f := fun q => failureSealed failed (before q b))
    (fun q => failureSealed_before_map QueueEntry.buffer?_unmark q b failed) h

/-! ### Causes given -/

/-- The entry of `b` has PUSH once it is given (R67). -/
theorem pushed_givePush {q : List QueueEntry} {b : Fin 16} (h : hasEntry q b = true) : pushed (givePush q b) b = true := by
  obtain ⟨e, he, hb⟩ := List.any_eq_true.mp h
  refine List.any_eq_true.mpr ⟨e.pushFor b, List.mem_map_of_mem he, ?_⟩
  cases e with
  | buffer b' aged push =>
    have hb : b' = b := by simpa using hb
    simp [QueueEntry.pushFor, hb]
  | marker f => cases hb

/-- The entry of `b` has AGED once it is given (R68). -/
theorem aged_giveAged {q : List QueueEntry} {b : Fin 16} (h : hasEntry q b = true) : aged (giveAged q b) b = true := by
  obtain ⟨e, he, hb⟩ := List.any_eq_true.mp h
  refine List.any_eq_true.mpr ⟨e.ageFor b, List.mem_map_of_mem he, ?_⟩
  cases e with
  | buffer b' aged push =>
    have hb : b' = b := by simpa using hb
    simp [QueueEntry.ageFor, hb]
  | marker f => cases hb

theorem hasEntry_givePush (q : List QueueEntry) (b b' : Fin 16) : hasEntry (givePush q b) b' = hasEntry q b' :=
  hasEntry_map (QueueEntry.buffer?_pushFor b) q b'

/-! ### An entry or a marker at the tail -/

@[simp] theorem hasEntry_concat (q : List QueueEntry) (e : QueueEntry) (b : Fin 16) :
    hasEntry (q ++ [e]) b = (hasEntry q b || e.isFor b) := by
  simp [hasEntry]

theorem hasEntry_append_self (q : List QueueEntry) (b : Fin 16) : hasEntry (append q b) b = true := by
  simp [append]

/-- A barrier request puts a marker behind a tail that is a buffer entry (R65). -/
theorem barrier_eq (q : List QueueEntry) :
    barrier q = if q.getLast?.any (fun e => !e.isMarker) then q ++ [.marker false] else q := by
  unfold barrier
  cases q.getLast? with
  | none => rfl
  | some e => cases e <;> rfl

theorem hasEntry_barrier (q : List QueueEntry) (b : Fin 16) : hasEntry (barrier q) b = hasEntry q b := by
  rw [barrier_eq]
  split <;> simp

/-- After a barrier request the tail is a marker (R65). -/
theorem getLast?_barrier {q : List QueueEntry} (h : q ≠ []) : ∃ f, (barrier q).getLast? = some (.marker f) := by
  have last := List.getLast?_eq_some_getLast h
  generalize q.getLast h = e at last
  rw [barrier_eq, last]
  cases e with
  | buffer b aged push => exact ⟨false, List.getLast?_concat⟩
  | marker f => exact ⟨f, last⟩

/-- An entry appended behind a marker has it before it. -/
theorem markerBefore_append {q : List QueueEntry} {b : Fin 16} (hb : hasEntry q b = false) {f : Bool}
    (h : QueueEntry.marker f ∈ q) : markerBefore (append q b) b = true := by
  have whole : before (append q b) b = q := by
    rw [before, append, List.takeWhile_append_of_pos]
    · simp
    · intro e he
      rw [Bool.eq_false_iff.mpr (List.any_eq_false.mp hb e he)]
      rfl
  rw [markerBefore, whole]
  exact List.any_eq_true.mpr ⟨_, h, rfl⟩

end Queue
end Sys2Proof.Machine
end

section
/-! PROOFS. What one consequence of a step can be where no access is answered: a flush that ends, or a commit that starts, stops or
is handed over (R71, R72, R81, R104); and that an access held for an entry stays held while no device is ABSENT (R76, R79): O13, O14.
The age deadline of an entry (R68): O38. -/
namespace Sys2Proof.Machine

/-- A consequence of `s` that answers no access and takes no turn of start-up, with the condition that its rule gives. -/
inductive State.CommitStep (s : State) : State → Prop where
  | flushed (h : s.flushComplete = true) : CommitStep s s.completeFlush
  | stopped (b : Fin 16) (hs : s.budgetSpent = true) (h : s.engineWaits b = true) : CommitStep s (s.stopCommit b)
  | started (b : Fin 16) (h : s.eligible b = true) : CommitStep s (s.startCommit b)
  | handedOver (b : Fin 16) (h : s.meetsButForDevice b = true) : CommitStep s (s.becomeFailed b)

/-- In service, with nothing come about that the access waits on. -/
structure State.Quiet (s : State) : Prop where
  access : s.settleAccess = none
  buffer : s.settleBufferWait = none
  done : s.startup.phase = .done

namespace State

theorem startable_dirty {s : State} {b : Fin 16} {x : DeviceState} (h : s.startable x b = true) :
    s.buffers[b].state = .dirty := by
  obtain ⟨-, -, -, hdirty, -⟩ := startable_iff.mp h
  exact hdirty

theorem settleStartup_of_done {s : State} (h : s.startup.phase = .done) : s.settleStartup = none := by
  unfold settleStartup
  split
  · rfl
  · rw [h]

theorem quiet_of_idle {s : State} (hw : s.waiting = none) (hd : s.startup.phase = .done) : s.Quiet :=
  ⟨by rw [settleAccess, hw], by rw [settleBufferWait, hw]; rfl, hd⟩

theorem Quiet.commitStep {s t : State} (h : s.Quiet) (ht : s.consequence = some t) : s.CommitStep t := by
  rcases consequence_cases ht with ht | ht | ht | ht | ht | ht
  · cases h.access.symm.trans ht
  · unfold settleFlush at ht
    split at ht
    · cases ht
      exact .flushed ‹_›
    · cases ht
  · unfold settleFill at ht
    split at ht
    · rename_i hs
      obtain ⟨b, hb, rfl⟩ := Option.map_eq_some_iff.mp ht
      exact .stopped b hs (List.find?_some hb)
    · cases ht
  · unfold settleQueue at ht
    obtain ⟨b, hb, rfl⟩ := Option.map_eq_some_iff.mp ht
    have taken := List.find?_some hb
    unfold takeEntry
    split
    · exact .started b ‹_›
    · rename_i he
      exact .handedOver b (by simpa [he] using taken)
  · cases h.buffer.symm.trans ht
  · cases (settleStartup_of_done h.done).symm.trans ht

theorem CommitStep.commitsOnly {s t : State} (h : s.CommitStep t) : s.CommitsOnly t := by
  cases h with
  | flushed => exact s.completeFlush_commitsOnly
  | stopped b hs h =>
    refine stopCommit_commitsOnly (hasEntry_of_committing (engineWaits_iff.mp h).1) fun hp => ?_
    rw [budgetSpent, hp] at hs
    cases hs
  | started b h => exact startCommit_commitsOnly (startable_dirty h)
  | handedOver b h => exact becomeFailed_commitsOnly (by rw [startable_dirty h]; rfl)

/-- What holds of a state, keeps it quiet and is kept by the consequences on commits, holds at the end of the step. -/
theorem conclude_commits_induct {P : State → Prop} (quiet : ∀ u, P u → u.Quiet)
    (step : ∀ u t, P u → u.CommitStep t → P t) (short : ∀ u, P u → P (u.raise .holdupShort)) {s : State} (hs : P s)
    (before : State) : P (s.conclude before) := by
  have settled : P s.settle :=
    settle_consequence_induct (fun u t hu ht => step u t hu ((quiet u hu).commitStep ht)) hs
  unfold conclude noteShort
  split
  · exact short _ settled
  · exact settled

theorem raise_commitsOnly (s : State) (f : EventFlag) : s.CommitsOnly (s.raise f) :=
  { CommitsOnly.refl s with flags := (s.raise_samePortMoreFlags f).2 }

/-- A commit that starts leaves its buffer COMMITTING, or DIRTY where the budget is spent (R86, R104). -/
theorem startCommit_state (s : State) (b : Fin 16) :
    (s.startCommit b).buffers[b].state = .committing ∨ (s.startCommit b).buffers[b].state = .dirty := by
  have committing : (s.setBuffer b { s.buffers[b] with state := .committing }).buffers[b].state = .committing := by
    rw [buffers_setBuffer_self]
  exact (startChoice_started committing).1.imp id And.left

/-- Where no device is ABSENT, no consequence on commits makes a buffer FAILED, and a FAILED one stays so (R72, R100). -/
theorem CommitStep.isFailed {s t : State} (h : s.CommitStep t) (hp : ∀ e : Fin 4, s.devices[e].state ≠ .absent) (b : Fin 16) :
    t.isFailed b = s.isFailed b := by
  have one {c : Fin 16} {u : State} (others : s.SameBuffersBut c u) (hs : s.buffers[c].state ≠ .failed)
      (hu : u.buffers[c].state ≠ .failed) : u.isFailed b = s.isFailed b := by
    unfold State.isFailed
    by_cases hb : b = c
    · subst hb
      rw [decide_eq_false hs, decide_eq_false hu]
    · rw [others b hb]
  cases h with
  | flushed => rfl
  | stopped c _ h =>
    have committing := (engineWaits_iff.mp h).1
    have dirty := (s.stopCommit_buffer c).1
    exact one (s.stopCommit_sameBuffersBut c) (by rw [committing]; decide) (by rw [dirty]; decide)
  | started c h =>
    refine one (s.startCommit_sameBuffersBut c) (by rw [startable_dirty h]; decide) ?_
    rcases s.startCommit_state c with hc | hd
    · rw [hc]; decide
    · rw [hd]; decide
  | handedOver c h =>
    obtain ⟨d, -, -, -, -, absent, -⟩ := startable_iff.mp h
    exact absurd absent (hp d)

/-! ### An access held for an entry (R76, R79) -/

/-- In RUNNING, with no device ABSENT, the access waits for the entry of `b`, as its own or as a cross-generation write, and
nothing makes it refused. -/
structure Held (b : Fin 16) (s : State) : Prop where
  done : s.startup.phase = .done
  running : s.part = .running
  present : ∀ e : Fin 4, s.devices[e].state ≠ .absent
  entry : Queue.hasEntry s.queue b = true
  unfailed : s.isFailed b = false
  waits : s.waiting = some (.entry b) ∨ s.waiting = some (.crossGeneration b) ∧ s.blocked b = false

variable {s t : State} {b : Fin 16}

theorem Held.quiet (h : s.Held b) : s.Quiet := by
  refine ⟨?_, ?_, h.done⟩
  · rcases h.waits with hw | ⟨hw, hb⟩
    · simp only [settleAccess, hw, settleWriteThrough, h.entry, h.unfailed]
      rfl
    · simp only [settleAccess, hw, settleHeldWrite, h.entry, h.unfailed, hb]
      rfl
  · rcases h.waits with hw | ⟨hw, -⟩
    · exact if_neg (by rw [hw]; exact nofun)
    · exact if_neg (by rw [hw]; exact nofun)

theorem blocked_congr (hq : Queue.unmark t.queue = Queue.unmark s.queue) (hf : ∀ c, t.isFailed c = s.isFailed c) (b : Fin 16) :
    t.blocked b = s.blocked b := by
  rw [blocked, blocked, Queue.hasEntry_congr hq, funext hf, Queue.failureSealed_before_congr hq]

/-- What keeps Port, part, devices and entries, and makes no buffer FAILED, keeps the access held. -/
theorem Held.of_commitsOnly (h : s.Held b) (hc : s.CommitsOnly t) (hf : ∀ c, t.isFailed c = s.isFailed c) : t.Held b where
  done := by rw [hc.startup, h.done]
  running := hc.part.trans h.running
  present := by rw [hc.devices]; exact h.present
  entry := (Queue.hasEntry_congr hc.queue b).trans h.entry
  unfailed := (hf b).trans h.unfailed
  waits := by
    rw [waiting_congr hc.port, blocked_congr hc.queue hf]
    exact h.waits

/-- The access is held still at the end of the step. -/
theorem Held.conclude (h : s.Held b) (before : State) : s.CommitsOnly (s.conclude before) ∧ (s.conclude before).Held b := by
  refine conclude_commits_induct (P := fun t => s.CommitsOnly t ∧ t.Held b) (fun u hu => hu.2.quiet)
    (fun u t ⟨hc, hu⟩ ht => ?_) (fun u ⟨hc, hu⟩ => ?_) ⟨.refl s, h⟩ before
  · exact ⟨hc.trans ht.commitsOnly, hu.of_commitsOnly ht.commitsOnly (ht.isFailed hu.present)⟩
  · exact ⟨hc.trans (u.raise_commitsOnly _), hu.of_commitsOnly (u.raise_commitsOnly _) fun _ => rfl⟩

end State

/-! ### A cross-generation write (R75, R76, R77) -/

section CrossGeneration
variable {s : State} {edge : ActiveEdge} {address : HostAddress} {data : Byte} {d : Decode} {b : Fin 16}

theorem State.checkedWrite_of_crossGeneration (hb : s.findBuffer d.device (d.address / 64) = some b)
    (he : Queue.hasEntry s.queue b = true) (hm : Queue.markerBehind s.queue b = true) (v : Byte) :
    s.checkedWrite address d v = if s.isFailed b || s.blocked b then s.refuse .bufferFailed
      else (s.givePush b).waitOn (.crossGeneration b) := by
  rw [State.checkedWrite, hb]
  dsimp only
  rw [he, hm]
  rfl

/-- A write held as a cross-generation write, before any consequence (R76). -/
theorem State.held_of_crossGeneration (h : s.takesAccess edge .write address d)
    (present : ∀ e : Fin 4, s.devices[e].state ≠ .absent) (he : Queue.hasEntry s.queue b = true)
    (hf : s.buffers[b].state ≠ .failed) (hb : s.blocked b = false) :
    (((s.decoded .write address data d).givePush b).waitOn (.crossGeneration b)).Held b := by
  obtain ⟨⟨-, hdone⟩, hpart, -⟩ := h
  refine ⟨hdone, hpart, present, (Queue.hasEntry_givePush _ b b).trans he, decide_eq_false hf, .inr ⟨rfl, ?_⟩⟩
  change (Queue.hasEntry (Queue.givePush s.queue b) b &&
    Queue.failureSealed s.isFailed (Queue.before (Queue.givePush s.queue b) b)) = false
  rw [Queue.hasEntry_givePush, Queue.givePush, Queue.failureSealed_before_map (QueueEntry.buffer?_pushFor b)]
  exact hb

end CrossGeneration

/-- Settles O13: a FAILED or blocked entry refuses the write at once, which eases the settled state; otherwise the write is held,
and where no device is ABSENT the consequences of the step fail no buffer, so that it stays held. -/
theorem writeWithAMarkerBehindItsEntry : Obligations.WriteWithAMarkerBehindItsEntry := by
  refine ⟨fun edge address data d b s h hs hd hw hb he hm hfail => ?_,
    fun edge address data d b s h _ hd hw present hb he hm hf hblocked => ?_⟩
  · have refused : (s.isFailed b || s.blocked b) = true := by simpa [State.isFailed] using hfail
    refine exec_of_refusedByOwner h hs ?_
    rw [State.toOwner_write hd hw,
      State.checkedWrite_of_crossGeneration (s := s.decoded .write address data d) hb he hm]
    exact if_pos refused
  · have admitted : (s.isFailed b || s.blocked b) = false := by simpa [State.isFailed, hblocked] using hf
    have step : exec (.hostAccessStart edge true address data) s = .next
        ((((s.decoded .write address data d).givePush b).waitOn (.crossGeneration b)).conclude s) := by
      rw [exec_of_takesAccess h, State.toOwner_write hd hw,
        State.checkedWrite_of_crossGeneration (s := s.decoded .write address data d) hb he hm]
      exact congrArg (fun u : State => (.next (u.conclude s) : Result))
        (if_neg (by rw [Bool.not_eq_true]; exact admitted))
    obtain ⟨commits, -⟩ := (State.held_of_crossGeneration (data := data) h present he hf hblocked).conclude s
    refine ⟨_, step, by rw [commits.port]; rfl, by rw [State.hwaitLow, commits.port]; rfl, ?_, commits.watches, fun b' => ?_⟩
    · exact (Queue.pushed_congr commits.queue b).trans (Queue.pushed_givePush he)
    · exact ⟨(commits.buffers b').data, (commits.buffers b').valid⟩

/-! ### A WRITE_THROUGH write (R65, R78, R79) -/

section WriteThrough
variable {s w : State} {edge : ActiveEdge} {address : HostAddress} {data : Byte} {d : Decode} {b : Fin 16}

/-- The byte placed in the buffer, the entry pushed and the access held for it, before any consequence (R49, R78). -/
def State.writtenThrough (w : State) (b : Fin 16) (d : Decode) (v : Byte) : State :=
  (((w.placeByte b d v).streamWritten d.device d.address).givePush b).waitOn (.entry b)

theorem State.writtenThrough_frame (w : State) (b : Fin 16) (d : Decode) (v : Byte) :
    (w.writtenThrough b d v).buffers = (w.placeByte b d v).buffers ∧
    (w.writtenThrough b d v).queue = Queue.givePush (w.placeByte b d v).queue b ∧
    (w.writtenThrough b d v).startup = w.startup ∧ (w.writtenThrough b d v).part = w.part ∧
    (w.writtenThrough b d v).devices = w.devices := by
  refine ⟨?_, ?_, ?_, ?_, ?_⟩ <;> simp [State.writtenThrough]

theorem State.writtenThrough_port {a : Access} (h : w.port.access = some a) (b : Fin 16) (d : Decode) (v : Byte) :
    (w.writtenThrough b d v).port = { w.port with access := some { a with status := .pending (.entry b) } } := by
  have port : (((w.placeByte b d v).streamWritten d.device d.address).givePush b).port = w.port := by simp
  rw [State.writtenThrough, State.waitOn_of_access (a := a) (by rw [port, h]), State.setAccess, port]

theorem State.finishWrite_of_writeThrough (h : s.unwatched address) (hd : d.policy = .writeThrough) (b : Fin 16) (v : Byte) :
    s.finishWrite b address d v = ((s.streamWritten d.device d.address).givePush b).waitOn (.entry b) := by
  rw [State.finishWrite, State.completeWatches_of_unwatched h]
  exact if_pos hd

/-- A WRITE_THROUGH write that no watch looks at takes its barrier request first (R78). -/
theorem State.toOwner_writeThrough (hd : d.policy = .writeThrough) (h : s.unwatched address) :
    (s.decoded .write address data d).toOwner (s.decodedAccess .write address data d) d =
      (s.decoded .write address data d).barrierRequest.checkedWrite address d data := by
  have latch : (s.decoded .write address data d).port.writeLatch = data := rfl
  unfold State.toOwner
  rw [show (s.decodedAccess .write address data d).direction = .write from rfl, hd]
  dsimp only
  rw [latch, State.writePath]
  congr 1
  exact State.evaluateWatches_of_unwatched (s := (s.decoded .write address data d).barrierRequest) h data

/-- The path of a WRITE_THROUGH write, behind its barrier request, to a buffer without an entry (R49, R78). -/
theorem exec_of_writtenThrough (h : s.takesAccess edge .write address d) (hs : s.coherent) (hd : d.policy = .writeThrough)
    (hw : s.unwatched address) (he : Queue.hasEntry s.queue b = false)
    (hb : s.findBuffer d.device (d.address / 64) = some b ∨
      (s.findBuffer d.device (d.address / 64) = none ∧ s.victim = some b)) (data : Byte) :
    ∃ w, (s.decoded .write address data d).barrierRequest.Targets b d w ∧ w.part = s.part ∧ w.devices = s.devices ∧
      exec (.hostAccessStart edge true address data) s = .next ((w.writtenThrough b d data).conclude s) := by
  have hdecoded : (s.decoded .write address data d).coherent :=
    State.SamePool.coherent (.of_frame ⟨rfl, rfl, rfl, rfl, rfl⟩) hs
  have hu := (s.decoded .write address data d).barrierRequest_samePool.coherent hdecoded
  rw [exec_of_takesAccess h, State.toOwner_writeThrough hd hw]
  have unwatched : (s.decoded .write address data d).barrierRequest.unwatched address := hw
  have found : (s.decoded .write address data d).barrierRequest.findBuffer d.device (d.address / 64) =
    s.findBuffer d.device (d.address / 64) := rfl
  have victim : (s.decoded .write address data d).barrierRequest.victim = s.victim := rfl
  have part : (s.decoded .write address data d).barrierRequest.part = s.part := rfl
  have devices : (s.decoded .write address data d).barrierRequest.devices = s.devices := rfl
  have entry : Queue.hasEntry (s.decoded .write address data d).barrierRequest.queue b = false :=
    (Queue.hasEntry_barrier s.queue b).trans he
  generalize (s.decoded .write address data d).barrierRequest = u at hu unwatched found victim part devices entry
  have finish (w : State) (hwatches : w.watches = u.watches) :
      (w.placeByte b d data).finishWrite b address d data = w.writtenThrough b d data := by
    refine State.finishWrite_of_writeThrough (fun n => ?_) hd b data
    have watches : (w.placeByte b d data).watches = u.watches := by simp [hwatches]
    rw [watches]
    exact unwatched n
  rcases hb with hfound | ⟨hnone, hv⟩
  · rw [← found] at hfound
    refine ⟨u, State.targets_resident hu hfound, part, devices, ?_⟩
    rw [State.checkedWrite, hfound]
    dsimp only
    rw [entry, Bool.false_and, if_neg Bool.false_ne_true, State.resolveWrite, hfound]
    dsimp only
    rw [finish u rfl]
  · rw [← found] at hnone
    rw [← victim] at hv
    have target := State.targets_allocated hu hnone hv
    refine ⟨_, target, by simp [part], by simp [devices], ?_⟩
    rw [State.checkedWrite, hnone]
    dsimp only
    rw [State.resolveWrite, hnone]
    dsimp only
    rw [hv]
    dsimp only
    rw [finish _ target.watches]

/-- A buffer that a write goes to and that has no entry is CLEAN (R34). -/
theorem State.Targets.clean (h : s.Targets b d w) (he : Queue.hasEntry s.queue b = false) : w.buffers[b].state = .clean := by
  have entry := h.entry.symm.trans he
  cases hst : w.buffers[b].state <;> rw [hst] at entry
  case free => exact absurd hst h.used
  all_goals cases entry

end WriteThrough

/-- Settles O14: behind its barrier request the write makes its buffer DIRTY with a pushed entry at the tail and is held for it;
where no device is ABSENT the consequences of the step fail no buffer, so that it stays held. -/
theorem writeThroughWriteWaitsForItsEntry : Obligations.WriteThroughWriteWaitsForItsEntry := by
  intro edge address data d b s h hs hd hw present he hb
  obtain ⟨w, target, part, devices, step⟩ := exec_of_writtenThrough h hs hd hw he hb data
  obtain ⟨⟨-, hdone⟩, hpart, -⟩ := h
  have entry : Queue.hasEntry (s.decoded .write address data d).barrierRequest.queue b = false :=
    (Queue.hasEntry_barrier s.queue b).trans he
  have clean := target.clean entry
  have access : w.port.access = some (s.decodedAccess .write address data d) := by rw [target.port]; rfl
  have port := State.writtenThrough_port access b d data
  obtain ⟨buffers, queue, startup, part', devices'⟩ := w.writtenThrough_frame b d data
  have record : (w.writtenThrough b d data).buffers[b] =
      w.buffers[b].dirtied d.offset data d.region (w.ageDeadlineFor d.region) := by
    rw [buffers, w.placeByte_buffer b d data, if_pos clean]
  have tail : (w.writtenThrough b d data).queue = Queue.givePush (Queue.append (Queue.barrier s.queue) b) b := by
    rw [queue, w.placeByte_queue b d data, if_pos clean, target.queue]
    rfl
  have held : (w.writtenThrough b d data).Held b :=
    { done := by rw [startup, target.startup]; exact hdone
      running := by rw [part', part, hpart]
      present := by rw [devices', devices]; exact present
      entry := by rw [tail, Queue.hasEntry_givePush, Queue.hasEntry_append_self]
      unfailed := by rw [State.isFailed, record]; rfl
      waits := .inl (State.waiting_of_pending
        (a := { s.decodedAccess .write address data d with status := .pending (.entry b) }) (by rw [port]) rfl) }
  obtain ⟨commits, -⟩ := held.conclude s
  refine ⟨_, step, by rw [commits.port, port], by rw [State.hwaitLow, commits.port, port], ?_, fun hne => ?_, ?_⟩
  · rw [Queue.pushed_congr commits.queue, tail]
    exact Queue.pushed_givePush (Queue.hasEntry_append_self _ b)
  · obtain ⟨f, hlast⟩ := Queue.getLast?_barrier hne
    rw [Queue.markerBefore_congr commits.queue, tail, Queue.givePush, Queue.markerBefore_map (QueueEntry.buffer?_pushFor b)]
    exact Queue.markerBefore_append entry (List.mem_of_getLast? hlast)
  · rw [(commits.buffers b).data, record]
    exact (w.buffers[b].write_spec d.offset data).1

/-! ### The age deadline (R68) -/

/-- Settles O38: the deadline gives the entry AGED and becomes absent, and no consequence takes a cause or sets a deadline. -/
theorem ageDeadlineGivesAged : Obligations.AgeDeadlineGivesAged := by
  intro b deadline s ⟨hr, hdone⟩ hw hdeadline he
  have step : exec (.ageDeadline b) s = .next (((s.advanceTo deadline).ageExpired b).conclude s) := by
    simp only [exec, execAgeDeadline, State.act_of_released hr, hdeadline]
  have rest : ((s.advanceTo deadline).ageExpired b).AtRest := ⟨hdone, .inl hw⟩
  have commits := rest.conclude s
  refine ⟨_, step, commits.now, ?_, ?_⟩
  · rw [(commits.buffers b).age]
    exact congrArg PageBuffer.ageDeadline ((s.advanceTo deadline).buffers_setBuffer_self b _)
  · exact (Queue.aged_congr commits.queue b).trans (Queue.aged_giveAged he)

end Sys2Proof.Machine
end

section
/-! PROOFS. An entry for an ABSENT device makes its buffer FAILED, and no consequence of the step takes a FAILED buffer's entry, not
even an access that is resolved again (R62, R72, R87, R100): O37. -/
namespace Sys2Proof.Machine

namespace Queue

/-- The removal of an entry leaves the others (R63). -/
theorem hasEntry_normalise_without (q : List QueueEntry) {b c : Fin 16} (h : b ≠ c) :
    hasEntry (normalise (without q c)) b = hasEntry q b := by
  obtain ⟨hspaced, merged, -⟩ := mergeMarkers_spec (without q c)
  obtain ⟨-, -, dropped, -⟩ := dropHeadMarker_spec hspaced
  have count : (normalise (without q c)).countP (·.isFor b) = q.countP (·.isFor b) := by
    rw [normalise, dropped, merged, countP_isFor_without, if_neg h]
  cases hq : hasEntry q b with
  | false => exact hasEntry_eq_false.mpr (count.trans (hasEntry_eq_false.mp hq))
  | true =>
    by_contra hn
    rw [hasEntry_eq_false.mpr (count.symm.trans (hasEntry_eq_false.mp (Bool.eq_false_iff.mpr hn)))] at hq
    cases hq

end Queue

namespace State

/-- Where `b` is FAILED in `s`, with its entry, it is so in `t`, with its attempts. -/
def KeepsFailed (b : Fin 16) (s t : State) : Prop :=
  s.buffers[b].state = .failed → Queue.hasEntry s.queue b = true →
    t.buffers[b].state = .failed ∧ t.buffers[b].attempts = s.buffers[b].attempts ∧ Queue.hasEntry t.queue b = true

variable {b c : Fin 16} {s t u : State}

theorem KeepsFailed.trans (h : s.KeepsFailed b t) (h' : t.KeepsFailed b u) : s.KeepsFailed b u := fun hf he => by
  obtain ⟨failed, attempts, entry⟩ := h hf he
  obtain ⟨failed', attempts', entry'⟩ := h' failed entry
  exact ⟨failed', attempts'.trans attempts, entry'⟩

/-- The record of a FAILED buffer is the same, and its entry stays. -/
theorem KeepsFailed.of_buffer (hb : s.buffers[b].state = .failed → t.buffers[b] = s.buffers[b])
    (hq : Queue.hasEntry t.queue b = Queue.hasEntry s.queue b) : s.KeepsFailed b t := fun hf he => by
  rw [hb hf]
  exact ⟨hf, rfl, hq.trans he⟩

theorem KeepsFailed.of_frame (h : t.buffers = s.buffers ∧ t.queue = s.queue) : s.KeepsFailed b t := by
  obtain ⟨hb, hq⟩ := h
  exact .of_buffer (fun _ => by rw [hb]) (by rw [hq])

/-- One buffer changes, and it is not FAILED. -/
theorem KeepsFailed.of_other (others : s.SameBuffersBut c t) (hc : s.buffers[c].state ≠ .failed) (hq : t.queue = s.queue) :
    s.KeepsFailed b t := by
  refine .of_buffer (fun hf => others b fun h => ?_) (by rw [hq])
  subst h
  exact hc hf

/-! ### An access resolved again (R38, R53, R76) -/

theorem requestFetch_keepsFailed (s : State) (c : Fin 16) : s.KeepsFailed b (s.requestFetch c) := fun hf he => by
  rw [requestFetch_buffers]
  refine ⟨?_, ?_, by simpa using he⟩
  · split
    · rename_i h
      obtain ⟨rfl, -⟩ := h
      exact hf
    · exact hf
  · split
    · rename_i h
      obtain ⟨rfl, -⟩ := h
      rfl
    · rfl

/-- The buffer that an allocation takes is not FAILED (R39). -/
theorem allocate_keepsFailed (hv : s.victim = some c) (g : Tag) : s.KeepsFailed b (s.allocate c g) := fun hf he => by
  have hne : b ≠ c := fun h => by
    subst h
    have entry := victim_hasEntry hv
    rw [hf] at entry
    cases entry
  have freed : Queue.hasEntry (s.freeBuffer c).queue b = true := by
    rw [freeBuffer_queue]
    split
    · rw [Queue.hasEntry_normalise_without _ hne, he]
    · exact he
  rw [s.allocate_sameBuffersBut c g b hne]
  refine ⟨hf, rfl, ?_⟩
  unfold allocate
  dsimp only
  split
  · exact he
  · exact freed

theorem placeByte_keepsFailed (s : State) (c : Fin 16) (d : Decode) (v : Byte) : s.KeepsFailed b (s.placeByte c d v) :=
  fun hf he => by
    have entry : Queue.hasEntry (s.placeByte c d v).queue b = true := by
      rw [placeByte_queue]
      split
      · rw [Queue.append, Queue.hasEntry_concat, he, Bool.true_or]
      · exact he
    by_cases hb : b = c
    · subst hb
      rw [placeByte_buffer, if_neg (by rw [hf]; decide)]
      exact ⟨hf, rfl, entry⟩
    · rw [s.placeByte_sameBuffersBut c d v b hb]
      exact ⟨hf, rfl, entry⟩

theorem hasEntry_completeWatches (s : State) (address : HostAddress) (v : Byte) (c b : Fin 16) :
    Queue.hasEntry (s.completeWatches address v c).queue b = Queue.hasEntry s.queue b := by
  refine foldl_invariant (P := fun t : State => Queue.hasEntry t.queue b = Queue.hasEntry s.queue b) rfl fun t n ht => ?_
  unfold completeWatch
  dsimp only
  repeat' split
  all_goals simpa [Queue.hasEntry_barrier, Queue.hasEntry_givePush] using ht

theorem finishWrite_keepsFailed (s : State) (c : Fin 16) (address : HostAddress) (d : Decode) (v : Byte) :
    s.KeepsFailed b (s.finishWrite c address d v) := by
  refine .of_buffer (fun _ => by simp) ?_
  rw [← s.hasEntry_completeWatches address v c]
  unfold finishWrite
  dsimp only
  split <;> simp [Queue.hasEntry_givePush]

theorem waitForBuffer_keepsFailed (s : State) : s.KeepsFailed b s.waitForBuffer := .of_frame (by simp)

theorem resolveRead_keepsFailed (s : State) (d : Decode) : s.KeepsFailed b (s.resolveRead d) := by
  have waits (u : State) (w : Wait) : u.KeepsFailed b (u.waitOn w) := .of_frame (by simp)
  unfold resolveRead
  split
  · unfold readResident
    split
    · exact .of_frame (by simp)
    · split
      · exact .of_frame (by simp)
      · refine .trans ?_ (waits _ _)
        split
        · exact .of_frame ⟨rfl, rfl⟩
        · exact s.requestFetch_keepsFailed _
  · unfold readAbsent
    split
    · exact .of_frame (by simp)
    · split
      · exact s.waitForBuffer_keepsFailed
      · exact (allocate_keepsFailed ‹_› _).trans ((requestFetch_keepsFailed _ _).trans (waits _ _))

theorem resolveWrite_keepsFailed (s : State) (address : HostAddress) (d : Decode) (v : Byte) :
    s.KeepsFailed b (s.resolveWrite address d v) := by
  have applied (u : State) (c : Fin 16) : u.KeepsFailed b ((u.placeByte c d v).finishWrite c address d v) :=
    (u.placeByte_keepsFailed c d v).trans (finishWrite_keepsFailed _ c address d v)
  unfold resolveWrite
  split
  · exact applied s _
  · split
    · exact s.waitForBuffer_keepsFailed
    · exact (allocate_keepsFailed ‹_› _).trans (applied _ _)

theorem resolveAgain_keepsFailed (h : s.resolveAgain = some t) : s.KeepsFailed b t := by
  unfold resolveAgain at h
  split at h
  · cases h
  · split at h
    · cases h
      exact s.resolveRead_keepsFailed _
    · cases h
      exact s.resolveWrite_keepsFailed _ _ _
    · cases h

/-! ### The consequences of a step -/

theorem drawn_keepsFailed (h : Drawn s t) (hdone : s.startup.phase = .done) : s.KeepsFailed b t := by
  cases h with
  | resolved _ _ ht => exact resolveAgain_keepsFailed ht
  | flushed _ => exact .of_buffer (fun _ => by simp) (Queue.hasEntry_congr s.completeFlush_commitsOnly.queue b)
  | stopped c _ h =>
    exact .of_other (s.stopCommit_sameBuffersBut c) (by rw [(engineWaits_iff.mp h).1]; decide) (by simp)
  | started c h => exact .of_other (s.startCommit_sameBuffersBut c) (by rw [startable_dirty h]; decide) (by simp)
  | handedOver c h => exact .of_other (s.becomeFailed_sameBuffersBut c) (by rw [startable_dirty h]; decide) (by simp)
  | probed h _ => rw [hdone] at h; cases h
  | startedUp h _ => rw [hdone] at h; rcases h with h | h <;> cases h
  | _ => exact .of_frame (by simp)

/-- In service a FAILED buffer with its entry is so at the end of the step. -/
theorem conclude_keepsFailed (hdone : s.startup.phase = .done) (before : State) : s.KeepsFailed b (s.conclude before) := by
  have settled : s.settle.startup.phase = .done ∧ s.KeepsFailed b s.settle := by
    refine settle_induct (P := fun t => t.startup.phase = .done ∧ s.KeepsFailed b t) (fun u t ⟨hd, hu⟩ ht => ?_)
      ⟨hdone, .of_frame ⟨rfl, rfl⟩⟩
    have alone : u.LeavesAlone .commits true t := drawn_leavesAlone ht hd
    exact ⟨alone.phase.trans hd, hu.trans (drawn_keepsFailed ht hd)⟩
  unfold State.conclude noteShort
  split
  · exact settled.2.trans (.of_frame ⟨rfl, rfl⟩)
  · exact settled.2

end State

/-- Settles O37: the hand-over leaves the buffer FAILED with its attempts and its entry, and raises COMMIT_FAIL; no consequence
takes that back, whatever access waits. -/
theorem absentHandoverFailsTheBuffer : Obligations.AbsentHandoverFailsTheBuffer := by
  intro b s ⟨hr, hdone⟩ h
  have step : exec (.absentHandover b) s = .next ((s.becomeFailed b).conclude s) := by
    simp only [exec, execAbsentHandover, State.act_of_released hr, h]
    rfl
  have record := s.becomeFailed_buffer b
  have done : (s.becomeFailed b).startup.phase = .done := by simpa using hdone
  have entered : Queue.hasEntry (s.becomeFailed b).queue b = true := by
    obtain ⟨-, -, wanted, -⟩ := State.startable_iff.mp h
    simpa using (Bool.and_eq_true_iff.mp wanted).1
  have raised : (s.becomeFailed b).flagSet .commitFail = true := State.flagSet_raise _ _
  obtain ⟨failed, attempts, entry⟩ := State.conclude_keepsFailed done s (by rw [record]) entered
  have alone : (s.becomeFailed b).LeavesAlone .commits true ((s.becomeFailed b).conclude s) := State.conclude_leavesAlone done s
  obtain ⟨-, -, -, flags⟩ := alone.configuration nofun
  obtain ⟨devices, -⟩ := alone.link (.inr (.inl rfl))
  exact ⟨_, step, failed, by rw [attempts, record]; rfl, entry, flags _ raised, by rw [devices]; simp⟩

end Sys2Proof.Machine
end

section
/-! PROOFS. The start of a commit: the span copied and its program requested, or a fetch pending; and what the commits of other
buffers that follow in the step leave of it (R71, R86, R88, R91, R92, R104, R163): O36. -/
namespace Sys2Proof.Machine

namespace State

variable {b c : Fin 16} {s t u : State}

/-! ### What a commit's operation leaves of the other buffers -/

/-- `t` comes from `s` by an operation on the commit of `c`: it writes no other buffer's record, no other device's copy, takes
away no other buffer's operation, and adds nothing to the budget count. -/
structure CommitOf (c : Fin 16) (s t : State) : Prop where
  others : s.SameBuffersBut c t
  tag : t.buffers[c].tag = s.buffers[c].tag
  transmit : ∀ d : Fin 4, s.deviceOfBuffer c ≠ some d → t.transmit[d] = s.transmit[d]
  requests : ∀ o ∈ s.requests, o.kind.servedBuffer ≠ some c → o ∈ t.requests
  count : t.supply.count ≤ s.supply.count

theorem CommitOf.refl (c : Fin 16) (s : State) : s.CommitOf c s := ⟨.of_eq rfl, rfl, fun _ _ => rfl, fun _ h _ => h, le_rfl⟩

theorem CommitOf.trans (h : s.CommitOf c t) (h' : t.CommitOf c u) : s.CommitOf c u where
  others := h.others.trans h'.others
  tag := h'.tag.trans h.tag
  transmit d hd := (h'.transmit d (by rw [deviceOfBuffer_congr h.tag]; exact hd)).trans (h.transmit d hd)
  requests o ho hk := h'.requests o (h.requests o ho hk) hk
  count := h'.count.trans h.count

theorem setBuffer_commitOf (s : State) (c : Fin 16) (x : PageBuffer) (h : x.tag = s.buffers[c].tag) :
    s.CommitOf c (s.setBuffer c x) :=
  { CommitOf.refl c s with
    others := s.setBuffer_sameBuffersBut c x
    tag := by rw [buffers_setBuffer_self, h] }

theorem request_commitOf (s : State) (c : Fin 16) (o : Operation) : s.CommitOf c (s.request o) :=
  { CommitOf.refl c s with requests := fun _ ho _ => List.mem_append_left _ ho }

theorem raise_commitOf (s : State) (c : Fin 16) (f : EventFlag) : s.CommitOf c (s.raise f) := { CommitOf.refl c s with }

theorem requestFetch_commitOf (s : State) (c : Fin 16) : s.CommitOf c (s.requestFetch c) := by
  unfold requestFetch
  split
  · exact .refl c s
  · exact (s.setBuffer_commitOf c { s.buffers[c] with fill := true } rfl).trans (request_commitOf _ c _)

theorem cancelFetch_commitOf (s : State) (c : Fin 16) : s.CommitOf c (s.cancelFetch c) :=
  { s.setBuffer_commitOf c { s.buffers[c] with fill := false } rfl with
    requests := fun o ho hk => by
      refine List.mem_filter.mpr ⟨ho, ?_⟩
      rw [Bool.not_eq_true', decide_eq_false_iff_not]
      intro h
      exact hk (by rw [h]; rfl) }

/-- Of its device alone the copy is released, and its own operations alone are withdrawn (R92, R101). -/
theorem withdrawCommit_commitOf (s : State) (c : Fin 16) : s.CommitOf c (s.withdrawCommit c) := by
  unfold withdrawCommit
  split
  · exact .refl c s
  · rename_i d hd
    exact
      { CommitOf.refl c s with
        transmit := fun e he => by
          have hne : d.val ≠ e.val := fun h => he (by rw [hd, Fin.ext h])
          exact Vector.getElem_set_ne d.isLt e.isLt hne
        requests := fun o ho hk => by
          have program : o.kind ≠ .program c := fun h => hk (by rw [h]; rfl)
          have check : o.kind ≠ .checkRead c := fun h => hk (by rw [h]; rfl)
          simp [withdraw, releaseSpan, ho, program, check] }

theorem endDirty_commitOf (s : State) (c : Fin 16) : s.CommitOf c (s.endDirty c) :=
  (s.withdrawCommit_commitOf c).trans (setBuffer_commitOf _ c _ rfl)

theorem becomeFailed_commitOf (s : State) (c : Fin 16) : s.CommitOf c (s.becomeFailed c) :=
  by
  have withdrawn := s.withdrawCommit_commitOf c
  exact (withdrawn.trans (setBuffer_commitOf _ c
    { (s.withdrawCommit c).buffers[c].returnInFlight with state := .failed, stage := none, sent := none } rfl)).trans
    (raise_commitOf _ c .commitFail)

theorem stopCommit_commitOf (s : State) (c : Fin 16) : s.CommitOf c (s.stopCommit c) := by
  unfold stopCommit
  dsimp only
  split
  · exact (s.cancelFetch_commitOf c).trans (endDirty_commitOf _ c)
  · exact s.endDirty_commitOf c

theorem enterFill_commitOf (s : State) (c : Fin 16) : s.CommitOf c (s.enterFill c) := by
  have staged := s.setBuffer_commitOf c { s.buffers[c] with stage := some .fill } rfl
  unfold enterFill
  dsimp only
  split
  · exact staged
  · exact staged.trans (requestFetch_commitOf _ c)

theorem startSend_commitOf (s : State) (c : Fin 16) : s.CommitOf c (s.startSend c) where
  others := s.startSend_sameBuffersBut c
  tag := (s.startSend_keeps c).tag
  transmit d hd := by
    unfold startSend
    split
    · rfl
    · rename_i g hg
      have hne : g.device.val ≠ d.val := fun h => hd (by rw [deviceOfBuffer, hg, ← Fin.ext h]; rfl)
      exact Vector.getElem_set_ne g.device.isLt d.isLt hne
  requests _ ho _ := mem_startSend ho
  count := by simp

theorem enterSend_commitOf (s : State) (c : Fin 16) : s.CommitOf c (s.enterSend c) := by
  unfold enterSend
  split
  · split
    · exact s.stopCommit_commitOf c
    · have spent : s.CommitOf c { s with supply := { s.supply with count := s.supply.count - 1 } } :=
        { CommitOf.refl c s with count := Nat.sub_le _ _ }
      exact spent.trans (startSend_commitOf _ c)
  · exact s.startSend_commitOf c

theorem startCommit_commitOf (s : State) (c : Fin 16) : s.CommitOf c (s.startCommit c) := by
  refine (s.setBuffer_commitOf c { s.buffers[c] with state := .committing } rfl).trans ?_
  unfold startCommit startChoice
  split
  · exact enterSend_commitOf _ c
  · exact enterFill_commitOf _ c

/-! ### A commit under way -/

/-- In service, with no access that waits: `b`, tagged `g`, is COMMITTING, as the only buffer of its device, and in SEND, or the
part is RUNNING. -/
structure UnderWay (b : Fin 16) (g : Tag) (s : State) : Prop where
  idle : s.waiting = none
  done : s.startup.phase = .done
  committing : s.buffers[b].state = .committing
  tag : s.buffers[b].tag = some g
  alone : ∀ c : Fin 16, c ≠ b → s.buffers[c].state = .committing → s.deviceOfBuffer c ≠ some g.device
  unstopped : s.part = .running ∨ s.buffers[b].stage ≠ some .fill

/-- What the consequences of a step leave of a commit under way. -/
structure KeepsCommit (b : Fin 16) (g : Tag) (s t : State) : Prop where
  commits : s.CommitsOnly t
  record : t.buffers[b] = s.buffers[b]
  transmit : t.transmit[g.device] = s.transmit[g.device]
  requests : ∀ o ∈ s.requests, o.kind = .program b → o ∈ t.requests
  count : t.supply.count ≤ s.supply.count
  unspent : (∀ c : Fin 16, c ≠ b → Queue.hasEntry s.queue c = false) → t.supply.count = s.supply.count

variable {g : Tag}

theorem KeepsCommit.refl (s : State) : s.KeepsCommit b g s := ⟨.refl s, rfl, rfl, fun _ h _ => h, le_rfl, fun _ => rfl⟩

theorem KeepsCommit.trans (h : s.KeepsCommit b g t) (h' : t.KeepsCommit b g u) : s.KeepsCommit b g u where
  commits := h.commits.trans h'.commits
  record := h'.record.trans h.record
  transmit := h'.transmit.trans h.transmit
  requests o ho hk := h'.requests o (h.requests o ho hk) hk
  count := h'.count.trans h.count
  unspent he := (h'.unspent fun c hc => (Queue.hasEntry_congr h.commits.queue c).trans (he c hc)).trans (h.unspent he)

/-- An operation on the commit of a buffer of another device. -/
theorem CommitOf.keepsCommit (h : s.CommitOf c t) (hc : s.CommitsOnly t) (hne : c ≠ b) (hd : s.deviceOfBuffer c ≠ some g.device)
    (hcount : Queue.hasEntry s.queue c = true ∨ t.supply.count = s.supply.count) : s.KeepsCommit b g t where
  commits := hc
  record := h.others b hne.symm
  transmit := h.transmit _ hd
  requests o ho hk := h.requests o ho (by rw [hk]; exact fun h => hne (Option.some.inj h).symm)
  count := h.count
  unspent he := hcount.resolve_left fun hq => by rw [he c hne] at hq; cases hq

/-- The device of a commit under way has a COMMITTING buffer, so that none of its entries is taken (R71). -/
theorem UnderWay.other_device (h : s.UnderWay b g) {x : DeviceState} (hc : s.startable x c = true) :
    c ≠ b ∧ s.deviceOfBuffer c ≠ some g.device ∧ Queue.hasEntry s.queue c = true := by
  obtain ⟨d, hd, wanted, hdirty, -, -, halone, -⟩ := startable_iff.mp hc
  refine ⟨fun hb => ?_, fun hg => ?_, (Bool.and_eq_true_iff.mp wanted).1⟩
  · subst hb
    cases hdirty.symm.trans h.committing
  · have hdg : d = g.device := Option.some.inj (hd.symm.trans hg)
    have other := List.any_eq_false.mp halone b (List.mem_finRange b)
    rw [Bool.and_eq_true, decide_eq_true_eq, decide_eq_true_eq] at other
    exact other ⟨h.committing, by rw [deviceOfBuffer, h.tag, hdg]; rfl⟩

/-- A commit that stops is another one, of another device (R104). -/
theorem UnderWay.not_stopped (h : s.UnderWay b g) (hs : s.budgetSpent = true) (hc : s.engineWaits c = true) :
    c ≠ b ∧ s.deviceOfBuffer c ≠ some g.device := by
  obtain ⟨committing, stage⟩ := engineWaits_iff.mp hc
  have hne : c ≠ b := fun hb => by
    subst hb
    rcases h.unstopped with hp | hf
    · rw [budgetSpent, hp] at hs
      cases hs
    · exact hf stage
  exact ⟨hne, h.alone c hne committing⟩

theorem UnderWay.step (h : s.UnderWay b g) (ht : s.CommitStep t) : s.KeepsCommit b g t := by
  have commits := ht.commitsOnly
  cases ht with
  | flushed => exact { KeepsCommit.refl s with commits := commits }
  | stopped c hs hc =>
    obtain ⟨hne, hd⟩ := h.not_stopped hs hc
    exact (s.stopCommit_commitOf c).keepsCommit commits hne hd (.inr (by simp))
  | started c hc =>
    obtain ⟨hne, hd, he⟩ := h.other_device hc
    exact (s.startCommit_commitOf c).keepsCommit commits hne hd (.inl he)
  | handedOver c hc =>
    obtain ⟨hne, hd, he⟩ := h.other_device hc
    exact (s.becomeFailed_commitOf c).keepsCommit commits hne hd (.inl he)

/-- A buffer that a consequence leaves COMMITTING was so before, or has been taken. -/
theorem CommitStep.committing (ht : s.CommitStep t) (hc : t.buffers[c].state = .committing) :
    s.buffers[c].state = .committing ∨ s.eligible c = true := by
  have other {c' : Fin 16} {u : State} (others : s.SameBuffersBut c' u) (hu : u.buffers[c].state = .committing)
      (hself : c = c' → s.buffers[c].state = .committing ∨ s.eligible c = true) :
      s.buffers[c].state = .committing ∨ s.eligible c = true := by
    by_cases h : c = c'
    · exact hself h
    · exact .inl (others c h ▸ hu)
  cases ht with
  | flushed => exact .inl hc
  | stopped c' _ h => exact other (s.stopCommit_sameBuffersBut c') hc fun hcc => .inl (hcc ▸ (engineWaits_iff.mp h).1)
  | started c' h => exact other (s.startCommit_sameBuffersBut c') hc fun hcc => .inr (hcc ▸ h)
  | handedOver c' h =>
    refine other (s.becomeFailed_sameBuffersBut c') hc fun hcc => ?_
    subst hcc
    rw [becomeFailed_buffer] at hc
    cases hc

theorem UnderWay.of_keepsCommit (h : s.UnderWay b g) (hk : s.KeepsCommit b g t)
    (hc : ∀ c : Fin 16, c ≠ b → t.buffers[c].state = .committing → s.deviceOfBuffer c ≠ some g.device) : t.UnderWay b g where
  idle := (waiting_congr hk.commits.port).trans h.idle
  done := by rw [hk.commits.startup, h.done]
  committing := by rw [hk.record, h.committing]
  tag := by rw [hk.record, h.tag]
  alone c hne hcc := by
    rw [deviceOfBuffer_congr (hk.commits.buffers c).tag]
    exact hc c hne hcc
  unstopped := by
    rw [hk.commits.part, hk.record]
    exact h.unstopped

/-- A commit under way is so, with what it has set up, at the end of the step. -/
theorem UnderWay.conclude (h : s.UnderWay b g) (before : State) : s.KeepsCommit b g (s.conclude before) := by
  refine (conclude_commits_induct (P := fun t => s.KeepsCommit b g t ∧ t.UnderWay b g)
    (fun u hu => quiet_of_idle hu.2.idle hu.2.done) (fun u t ⟨hk, hu⟩ ht => ?_) (fun u ⟨hk, hu⟩ => ?_) ⟨.refl s, h⟩ before).1
  · have kept := hu.step ht
    refine ⟨hk.trans kept, hu.of_keepsCommit kept fun c hne hc => ?_⟩
    rcases ht.committing hc with hc | hc
    · exact hu.alone c hne hc
    · exact (hu.other_device hc).2.1
  · have kept : u.KeepsCommit b g (u.raise .holdupShort) := { KeepsCommit.refl u with commits := u.raise_commitsOnly _ }
    exact ⟨hk.trans kept, hu.of_keepsCommit kept hu.alone⟩

/-! ### The start of a commit (R86) -/

/-- The state of a commit that starts, before the start choice. -/
def committed (s : State) (b : Fin 16) : State := s.setBuffer b { s.buffers[b] with state := .committing }

theorem committed_buffer (s : State) (b : Fin 16) : (s.committed b).buffers[b] = { s.buffers[b] with state := .committing } :=
  s.buffers_setBuffer_self b _

/-- A span that is not wholly known is fetched first, whatever part state (R86, R88). -/
theorem startCommit_of_unknown (h : spanKnown s.buffers[b].dirty s.buffers[b].valid = false) (ht : s.buffers[b].tag ≠ none) :
    (s.startCommit b).buffers[b] = { s.buffers[b] with state := .committing, stage := some .fill, fill := true } := by
  have fill : s.startCommit b = (s.committed b).enterFill b := by
    refine if_neg ?_
    rw [← committed, committed_buffer, h]
    exact Bool.false_ne_true
  have pinned : s.buffers[b].tag.isSome = true := Option.isSome_iff_ne_none.mpr ht
  rw [fill, enterFill_buffer, committed_buffer, pinned, Bool.or_true]

/-- The SEND start copies the span and requests its program (R91, R92). -/
theorem startSend_sendsSpan {w : State} (hb : w.buffers[b] = { s.buffers[b] with state := .committing })
    (hr : w.regions = s.regions) (ht : s.buffers[b].tag = some g) :
    s.sendsSpan b g (w.startSend b) ∧ (w.startSend b).buffers[b].state = .committing := by
  have tagged : w.buffers[b].tag = some g := by rw [hb, ht]
  have record := startSend_buffer (s := w) (b := b) (by rw [tagged]; exact Option.some_ne_none g)
  have verify : w.verifyOf b = s.buffers[b].commitRegion.any fun n => s.regions[n].verify := by
    rw [verifyOf, hb, hr]
    cases s.buffers[b].commitRegion <;> rfl
  have transmit : (w.startSend b).transmit[g.device] =
      some { start := g.page * 64 + lowest w.buffers[b].dirty, bytes := w.buffers[b].spanBytes } := by
    rw [startSend, tagged]
    exact Vector.getElem_set_self _
  have program : Operation.mk (.program b) g.device (g.page * 64 + lowest w.buffers[b].dirty)
      (spanLength w.buffers[b].dirty) ∈ (w.startSend b).requests := by
    rw [startSend, tagged]
    exact List.mem_append_right _ List.mem_cons_self
  rw [hb] at record transmit program
  rw [verify] at record
  refine ⟨⟨?_, ?_, ?_, ?_, transmit, program⟩, ?_⟩ <;> rw [record] <;> rfl

/-- A known span is sent at once; in HOLDUP, where the budget is not spent, with a count consumed (R91, R104). -/
theorem startCommit_of_known (h : spanKnown s.buffers[b].dirty s.buffers[b].valid = true) (ht : s.buffers[b].tag = some g)
    (hs : s.budgetSpent = false) :
    s.sendsSpan b g (s.startCommit b) ∧ (s.startCommit b).buffers[b].state = .committing ∧
      (s.part = .holdup → (s.startCommit b).supply.count + 1 = s.supply.count) := by
  have send : s.startCommit b = (s.committed b).enterSend b := by
    refine if_pos ?_
    rw [← committed, committed_buffer]
    exact h
  rw [send, enterSend]
  split
  · rename_i hp
    have left : s.supply.count ≠ 0 := by simpa [budgetSpent, show s.part = .holdup from hp] using hs
    rw [if_neg (show ¬ (s.committed b).supply.count = 0 from left)]
    obtain ⟨sends, committing⟩ := startSend_sendsSpan (s := s) (b := b) (g := g)
      (w := { s.committed b with supply := { s.supply with count := s.supply.count - 1 } }) (s.committed_buffer b) rfl ht
    refine ⟨sends, committing, fun _ => ?_⟩
    have count : (State.startSend { s.committed b with supply := { s.supply with count := s.supply.count - 1 } } b).supply.count =
        s.supply.count - 1 := by simp
    exact (congrArg (· + 1) count).trans (Nat.succ_pred left)
  · rename_i hp
    obtain ⟨sends, committing⟩ := startSend_sendsSpan (s := s) (w := s.committed b) (s.committed_buffer b) rfl ht
    exact ⟨sends, committing, fun h => absurd h hp⟩

theorem eligible_of_nearest (h : s.nearestEligible b = some b) : s.eligible b = true :=
  by
  have found := List.find?_some (show List.find? _ _ = some b from h)
  exact (Bool.and_eq_true_iff.mp found).1

theorem exec_commitStart (hr : s.resetHeld = false) (h : s.nearestEligible b = some b) :
    exec (.commitStart b) s = .next ((s.startCommit b).conclude s) := by
  simp only [exec, execCommitStart, act_of_released hr, h, if_true]

/-- An eligible entry's commit is under way once it has started. -/
theorem startCommit_underWay (hw : s.waiting = none) (hd : s.startup.phase = .done) (h : s.eligible b = true)
    (ht : s.buffers[b].tag = some g) (hc : (s.startCommit b).buffers[b].state = .committing)
    (hf : s.part = .running ∨ (s.startCommit b).buffers[b].stage ≠ some .fill) : (s.startCommit b).UnderWay b g where
  idle := (waiting_congr (by simp)).trans hw
  done := by simpa using hd
  committing := hc
  tag := (s.startCommit_commitOf b).tag.trans ht
  alone c hne hcc := by
    obtain ⟨d, hdev, -, -, -, -, halone, -⟩ := startable_iff.mp h
    have same := (s.startCommit_commitOf b).others c hne
    rw [deviceOfBuffer_congr (s := s) (by rw [same])]
    intro hg
    have own : d = g.device := by
      rw [deviceOfBuffer, ht] at hdev
      exact (Option.some.inj hdev).symm
    have other := List.any_eq_false.mp halone c (List.mem_finRange c)
    rw [Bool.and_eq_true, decide_eq_true_eq, decide_eq_true_eq] at other
    exact other ⟨same ▸ hcc, own ▸ hg⟩
  unstopped := by
    have part : (s.startCommit b).part = s.part := by simp
    rw [part]
    exact hf

/-- A span sent stays sent while the commit is kept. -/
theorem KeepsCommit.sendsSpan (h : u.KeepsCommit b g t) (hs : s.sendsSpan b g u) : s.sendsSpan b g t := by
  obtain ⟨stage, dirty, inFlight, sent, transmit, program⟩ := hs
  rw [State.sendsSpan, h.record, h.transmit]
  exact ⟨stage, dirty, inFlight, sent, transmit, h.requests _ program rfl⟩

/-- HOLDUP_SHORT is raised where the short condition has come to hold in the step (R163). -/
theorem conclude_short {before : State} (hb : before.shortCondition = false) (hp : (s.conclude before).part = .holdup)
    (hcount : (s.conclude before).supply.count = 0) (hd : (s.conclude before).buffers[b].state = .dirty)
    (he : Queue.hasEntry (s.conclude before).queue b = true) : (s.conclude before).flagSet .holdupShort = true := by
  have short : (s.conclude before).shortCondition = true := by
    rw [shortCondition, budgetSpent, hp, hcount, Bool.and_eq_true]
    exact ⟨rfl, List.any_eq_true.mpr ⟨b, List.mem_finRange b, by rw [hd, he]; rfl⟩⟩
  unfold conclude noteShort at short ⊢
  split
  · exact flagSet_raise _ _
  · rename_i hn
    rw [if_neg hn] at short
    rw [short, hb] at hn
    exact absurd rfl hn

end State

/-- Settles O36: the commit that starts is the only one of its device, so that the consequences of the step, which take no further
entry of that device and stop no commit in SEND, leave its record, its copy and its program. -/
theorem eligibleEntryStartsItsCommit : Obligations.EligibleEntryStartsItsCommit := by
  refine ⟨fun b g s ⟨hr, hdone⟩ hp hw hn ht => ?_, fun b g s ⟨hr, hdone⟩ hp hw hn ht hspan => ?_⟩
  · have eligible := State.eligible_of_nearest hn
    have unspent : s.budgetSpent = false := by rw [State.budgetSpent, hp]; rfl
    refine ⟨_, State.exec_commitStart hr hn, ?_⟩
    have unknown := State.startCommit_of_unknown (s := s) (b := b)
    have known := State.startCommit_of_known (s := s) (b := b) (g := g)
    have committing : (s.startCommit b).buffers[b].state = .committing := by
      cases hspan : spanKnown s.buffers[b].dirty s.buffers[b].valid with
      | false => rw [unknown hspan (by rw [ht]; exact Option.some_ne_none g)]
      | true => exact (known hspan ht unspent).2.1
    have kept := (State.startCommit_underWay hw hdone eligible ht committing (.inl hp)).conclude s
    have started := State.startCommit_commitsOnly (State.startable_dirty eligible)
    refine ⟨by rw [kept.record, committing], ?_, ?_, fun hspan => ?_, fun hspan => kept.sendsSpan (known hspan ht unspent).1⟩
    · rw [kept.record, (started.buffers b).attempts]
    · rw [kept.record, (started.buffers b).data]
    · rw [kept.record, unknown hspan (by rw [ht]; exact Option.some_ne_none g)]
      exact ⟨rfl, rfl, rfl⟩
  · have eligible := State.eligible_of_nearest hn
    obtain ⟨-, -, -, -, -, -, -, unspent⟩ := State.startable_iff.mp eligible
    obtain ⟨sends, committing, count⟩ := State.startCommit_of_known hspan ht unspent
    have kept := (State.startCommit_underWay hw hdone eligible ht committing
      (.inr (by rw [sends.1]; exact nofun))).conclude s
    have started := State.startCommit_commitsOnly (State.startable_dirty eligible)
    have count := count hp
    have least := kept.count
    have part : ((s.startCommit b).conclude s).part = .holdup := (kept.commits.part.trans started.part).trans hp
    refine ⟨_, State.exec_commitStart hr hn, by rw [kept.record, committing], kept.sendsSpan sends, by omega, fun he => ?_,
      fun b' hcount hd he => State.conclude_short (by rw [State.shortCondition, unspent]; rfl) part hcount hd he⟩
    rw [kept.unspent fun c hc => (Queue.hasEntry_congr started.queue c).trans (he c hc), count]

end Sys2Proof.Machine
end

section
/-! PROOFS. A flush request and the consequences that follow it (R80, R81), by the edge of FLUSHREQ# and by the command; a barrier
request by its command, after which no consequence follows (R65, R66, R82): O39, O48. -/
namespace Sys2Proof.Machine

/-! ### The flush mark at the tail (R80) -/

namespace Queue

theorem unmark_markTail (q : List QueueEntry) : unmark (markTail q) = unmark q := by
  induction q using markTail.induct with
  | case1 => rfl
  | case2 f => rfl
  | case3 e rest hne ih =>
    rw [markTail]
    · exact congrArg (e.unmark :: ·) ih
    · exact hne

theorem markTail_concat (q : List QueueEntry) (f : Bool) : markTail (q ++ [.marker f]) = q ++ [.marker true] := by
  induction q with
  | nil => rfl
  | cons e q ih =>
    rw [List.cons_append, markTail, ih]
    · rfl
    · intro _ _ h
      cases q <;> cases h

theorem countP_isMarked_unmark (q : List QueueEntry) : (unmark q).countP (·.isMarked) = 0 := by
  simp [unmark, List.countP_map, Function.comp_def]

/-- A barrier request leaves the entries in front of a marker (R65). -/
theorem barrier_concat {q : List QueueEntry} (h : q ≠ []) : ∃ p f, barrier q = p ++ [.marker f] := by
  obtain ⟨f, hf⟩ := getLast?_barrier h
  obtain ⟨p, hp⟩ := List.getLast?_eq_some_iff.mp hf
  exact ⟨p, f, hp⟩

/-- The queue after a flush request: the marker at the tail carries the only mark, and every entry stands before it (R80). -/
theorem flushed_spec {q : List QueueEntry} (h : q ≠ []) :
    (markTail (unmark (barrier q))).getLast? = some (.marker true) ∧
    (markTail (unmark (barrier q))).countP (·.isMarked) = 1 ∧
    ∀ b, hasEntry (markTail (unmark (barrier q))) b = true → b ∈ flushedBuffers (markTail (unmark (barrier q))) := by
  obtain ⟨p, f, hp⟩ := barrier_concat h
  have marked : markTail (unmark (barrier q)) = unmark p ++ [.marker true] := by
    rw [hp, unmark, List.map_append]
    exact markTail_concat _ false
  have unmarked : ∀ e ∈ unmark p, (!e.isMarked) = true := fun e he => by
    rw [Bool.eq_false_iff.mpr (List.countP_eq_zero.mp (countP_isMarked_unmark p) e he)]
    rfl
  rw [marked]
  refine ⟨List.getLast?_concat, ?_, fun b hb => ?_⟩
  · rw [List.countP_append, countP_isMarked_unmark]
    rfl
  · rw [flushedBuffers, List.takeWhile_append_of_pos unmarked]
    rw [hasEntry_concat, QueueEntry.isFor_marker, Bool.or_false] at hb
    obtain ⟨e, he, hfor⟩ := List.any_eq_true.mp hb
    rw [QueueEntry.isFor_eq, decide_eq_true_eq] at hfor
    exact List.mem_filterMap.mpr ⟨e, List.mem_append_left _ he, hfor⟩

/-- A buffer met in the first stretch of the queue has its entry in the queue. -/
theorem hasEntry_of_mem_takeWhile {q : List QueueEntry} {p : QueueEntry → Bool} {b : Fin 16}
    (h : b ∈ (q.takeWhile p).filterMap (·.buffer?)) : hasEntry q b = true := by
  obtain ⟨e, he, hb⟩ := List.mem_filterMap.mp h
  exact List.any_eq_true.mpr ⟨e, (List.takeWhile_sublist p).mem he, by rw [QueueEntry.isFor_eq, hb, decide_eq_true rfl]⟩

theorem getLast?_of_no_entry {q : List QueueEntry} (h : ∀ b, hasEntry q b = false) :
    q.getLast?.any (fun e => !e.isMarker) = false := by
  cases hq : q.getLast? with
  | none => rfl
  | some e =>
    cases e with
    | buffer b aged push =>
      have entry := List.any_eq_false.mp (h b) _ (List.mem_of_getLast? hq)
      exact absurd (decide_eq_true rfl) entry
    | marker f => rfl

end Queue

namespace State

variable {s t u : State} {b : Fin 16}

/-! ### A flush pending (R81) -/

/-- A buffer that a pending flush waits for: DIRTY or COMMITTING (R81). -/
abbrev Unsaved (s : State) (b : Fin 16) : Prop := s.buffers[b].state = .dirty ∨ s.buffers[b].state = .committing

theorem flushComplete_iff : s.flushComplete = true ↔
    Queue.flushPending s.queue = true ∧ ∀ b ∈ Queue.flushedBuffers s.queue, ¬ s.Unsaved b := by
  simp [flushComplete, Unsaved, not_or]

/-- No consequence on commits makes a buffer DIRTY or COMMITTING that was neither. -/
theorem CommitStep.unsaved (h : s.CommitStep t) (hb : t.Unsaved b) : s.Unsaved b := by
  have other {c : Fin 16} {v : State} (others : s.SameBuffersBut c v) (hc : s.Unsaved c) (hv : v.Unsaved b) : s.Unsaved b := by
    by_cases hbc : b = c
    · exact hbc ▸ hc
    · rw [Unsaved, others b hbc] at hv
      exact hv
  cases h with
  | flushed => exact hb
  | stopped c _ h => exact other (s.stopCommit_sameBuffersBut c) (.inr (engineWaits_iff.mp h).1) hb
  | started c h => exact other (s.startCommit_sameBuffersBut c) (.inl (startable_dirty h)) hb
  | handedOver c h => exact other (s.becomeFailed_sameBuffersBut c) (.inl (startable_dirty h)) hb

theorem flagSet_congr (h : t.flags = s.flags) (f : EventFlag) : t.flagSet f = s.flagSet f := by rw [flagSet, h, flagSet]

/-- A flag raised is no other flag (R178). -/
theorem flagSet_raise_of_ne (s : State) {f g : EventFlag} (h : f.bit ≠ g.bit) : (s.raise f).flagSet g = s.flagSet g := by
  have clear : f.mask.getLsbD g.bit = false := by
    rw [EventFlag.mask, BitVec.getLsbD_shiftLeft]
    by_cases hlt : g.bit < f.bit
    · simp [hlt]
    · rw [BitVec.getLsbD_one]
      simp
      omega
  rw [flagSet, raise, BitVec.getLsbD_or, clear, Bool.or_false, flagSet]

/-- A step's consequence leaves queue and FLUSH_DONE alone, or it is the end of the flush. -/
theorem CommitStep.queue_eq (h : s.CommitStep t) :
    (t.queue = s.queue ∧ t.flagSet .flushDone = s.flagSet .flushDone) ∨ (s.flushComplete = true ∧ t = s.completeFlush) := by
  cases h with
  | flushed h => exact .inr ⟨h, rfl⟩
  | stopped c => exact .inl ⟨by simp, flagSet_congr (by simp) _⟩
  | started c => exact .inl ⟨by simp, flagSet_congr (by simp) _⟩
  | handedOver c =>
    refine .inl ⟨by simp, ?_⟩
    rw [becomeFailed_eq, flagSet_raise_of_ne _ (by decide)]
    exact flagSet_congr (by simp) _

/-- What a flush request in `u` has come to in `t`: it is pending as it was made, or over, with no entry left that it waits for. -/
structure Flushing (u t : State) : Prop where
  idle : t.waiting = none
  done : t.startup.phase = .done
  entries : Queue.unmark t.queue = Queue.unmark u.queue
  outcome : (t.queue = u.queue ∧ t.flagSet .flushDone = u.flagSet .flushDone) ∨
    (t.flagSet .flushDone = true ∧ ∀ b, Queue.hasEntry t.queue b = true → ¬ t.Unsaved b)

/-- Each entry of `u` stands before the flush mark, where there is one. -/
abbrev MarkBehindAll (u : State) : Prop := ∀ b, Queue.hasEntry u.queue b = true → b ∈ Queue.flushedBuffers u.queue

theorem Flushing.step (hall : u.MarkBehindAll) (h : u.Flushing s) (ht : s.CommitStep t) : u.Flushing t := by
  have commits := ht.commitsOnly
  have entry (b : Fin 16) : Queue.hasEntry t.queue b = Queue.hasEntry s.queue b := Queue.hasEntry_congr commits.queue b
  refine ⟨(waiting_congr commits.port).trans h.idle, by rw [commits.startup, h.done], commits.queue.trans h.entries, ?_⟩
  rcases h.outcome with ⟨queue, flag⟩ | ⟨flag, saved⟩
  · rcases ht.queue_eq with ⟨queue', flag'⟩ | ⟨complete, rfl⟩
    · exact .inl ⟨queue'.trans queue, flag'.trans flag⟩
    · obtain ⟨-, saved⟩ := flushComplete_iff.mp complete
      refine .inr ⟨flagSet_raise _ _, fun b hb hu => saved b ?_ hu⟩
      rw [queue]
      exact hall b (by rw [← queue, ← entry, hb])
  · refine .inr ⟨commits.flags _ flag, fun b hb hu => saved b ?_ (ht.unsaved hu)⟩
    rw [← entry, hb]

theorem Flushing.conclude (hall : u.MarkBehindAll) (h : u.Flushing s) (before : State) : u.Flushing (s.conclude before) := by
  refine conclude_commits_induct (P := fun t => u.Flushing t) (fun t ht => quiet_of_idle ht.idle ht.done)
    (fun t v ht hv => ht.step hall hv) (fun t ht => ⟨ht.idle, ht.done, ht.entries, ?_⟩) h before
  rw [flagSet_raise_of_ne _ (by decide)]
  exact ht.outcome

/-! ### The flush request (R80, R81) -/

theorem flushRequest_of_entry (h : s.dirtyLine = true) :
    s.flushRequest = { s with queue := Queue.markTail (Queue.unmark (Queue.barrier s.queue)) } := if_pos h

theorem flushRequest_of_empty (h : s.dirtyLine = false) : s.flushRequest = s.raise .flushDone :=
  if_neg (by rw [h]; exact Bool.false_ne_true)

/-- The DIRTY line is high just where some buffer has an entry (R83). -/
theorem dirtyLine_iff : s.dirtyLine = true ↔ ∃ b, Queue.hasEntry s.queue b = true := by
  simp only [dirtyLine, Queue.hasEntry, List.any_eq_true]
  refine ⟨fun ⟨e, he, h⟩ => ?_, fun ⟨b, e, he, h⟩ => ⟨e, he, ?_⟩⟩
  · cases e with
    | buffer b aged push => exact ⟨b, _, he, decide_eq_true rfl⟩
    | marker f => cases h
  · cases e with
    | buffer => rfl
    | marker f => cases h

theorem hasEntry_of_not_dirtyLine (h : s.dirtyLine = false) (b : Fin 16) : Queue.hasEntry s.queue b = false := by
  by_contra hb
  rw [dirtyLine_iff.mpr ⟨b, Bool.eq_true_of_not_eq_false hb⟩] at h
  cases h

/-- But for the marks, a flush request is a barrier request (R80). -/
theorem unmark_flushRequest (s : State) : Queue.unmark s.flushRequest.queue = Queue.unmark
    (if s.queue.getLast?.any (fun e => !e.isMarker) then s.queue ++ [.marker false] else s.queue) := by
  rw [← Queue.barrier_eq]
  cases h : s.dirtyLine with
  | true => rw [flushRequest_of_entry h, Queue.unmark_markTail, Queue.unmark_unmark]
  | false =>
    rw [flushRequest_of_empty h, Queue.barrier_eq, Queue.getLast?_of_no_entry (hasEntry_of_not_dirtyLine h)]
    rfl

/-- A flush request that finds entries is pending; one that finds none is over (R80). -/
theorem flushRequest_spec (s : State) :
    (s.dirtyLine = true ∧ s.flushRequest.queue.getLast? = some (.marker true) ∧
      s.flushRequest.queue.countP (·.isMarked) = 1 ∧ s.flushRequest.MarkBehindAll ∧
      s.flushRequest.flagSet .flushDone = s.flagSet .flushDone) ∨
    ((∀ b, Queue.hasEntry s.flushRequest.queue b = false) ∧ s.flushRequest.flagSet .flushDone = true) := by
  cases h : s.dirtyLine with
  | true =>
    obtain ⟨b, hb⟩ := dirtyLine_iff.mp h
    obtain ⟨tail, one, all⟩ := Queue.flushed_spec (q := s.queue) (by rintro hq; rw [hq] at hb; cases hb)
    rw [flushRequest_of_entry h]
    exact .inl ⟨rfl, tail, one, all, rfl⟩
  | false =>
    rw [flushRequest_of_empty h]
    exact .inr ⟨hasEntry_of_not_dirtyLine h, flagSet_raise _ _⟩

/-- In service, with no access that waits, a flush request comes to what R80 and R81 say by the end of its step. -/
theorem flushRequested_conclude (hw : u.waiting = none) (hd : u.startup.phase = .done) (hq : u.queue = s.flushRequest.queue)
    (hf : u.flags = s.flushRequest.flags) (before : State) : s.flushRequested (u.conclude before) := by
  have flag := flagSet_congr (s := s.flushRequest) (t := u) hf .flushDone
  have spec := s.flushRequest_spec
  rw [← hq, ← flag] at spec
  have all : u.MarkBehindAll := by
    rcases spec with ⟨-, -, -, all, -⟩ | ⟨none, -⟩
    · rw [MarkBehindAll, hq]
      exact all
    · intro b hb
      rw [none b] at hb
      cases hb
  have flushing : u.Flushing (u.conclude before) := Flushing.conclude all ⟨hw, hd, rfl, .inl ⟨rfl, rfl⟩⟩ before
  have complete : (u.conclude before).flushComplete = false := by
    obtain ⟨-, flush, -⟩ := settled_iff.mp (u.conclude_settled before)
    exact settleFlush_eq_none_iff.mp flush
  have entry (b : Fin 16) := Queue.hasEntry_congr flushing.entries b
  refine ⟨flushing.entries.trans (hq ▸ s.unmark_flushRequest), ?_⟩
  split
  · rename_i h
    obtain ⟨b, hb, unsaved⟩ := h
    rcases flushing.outcome with ⟨queue, same⟩ | ⟨-, saved⟩
    · rcases spec with ⟨-, tail, one, -, kept⟩ | ⟨none, -⟩
      · exact ⟨by rw [queue, tail], by rw [queue, one], same.trans kept⟩
      · rw [entry, none b] at hb
        cases hb
    · exact absurd unsaved (saved b hb)
  · rename_i h
    have saved (b : Fin 16) (hb : Queue.hasEntry (u.conclude before).queue b = true) : ¬ (u.conclude before).Unsaved b :=
      fun hu => h ⟨b, hb, hu⟩
    have unflushed : Queue.flushPending (u.conclude before).queue = false := by
      by_contra hp
      rw [flushComplete_iff.mpr ⟨Bool.eq_true_of_not_eq_false hp, fun b hb =>
        saved b (Queue.hasEntry_of_mem_takeWhile hb)⟩] at complete
      cases complete
    refine ⟨?_, unflushed⟩
    rcases flushing.outcome with ⟨queue, same⟩ | ⟨done, -⟩
    · rcases spec with ⟨-, tail, -⟩ | ⟨-, done⟩
      · rw [queue, Queue.flushPending, List.any_eq_false] at unflushed
        exact absurd rfl (unflushed _ (List.mem_of_getLast? tail))
      · exact same.trans done
    · exact done

end State

/-! ### The edges of FLUSHREQ# (R80) -/

theorem exec_flushreqFall {s : State} (hr : s.resetHeld = false) : exec .flushreqFall s =
    s.act fun s => if s.flushreqLow then s else { s with flushreqLow := true }.flushRequest :=
  if_neg (by rw [hr]; exact Bool.false_ne_true)

/-- Settles O39: the request leaves a mark behind every entry or none to mark, and a settled state in which no entry is DIRTY or
COMMITTING has no flush pending. -/
theorem flushreqEdges : Obligations.FlushreqEdges := by
  refine ⟨fun s ⟨hr, hdone⟩ hw hlow => ?_, fun s hs hr hlow => ?_, fun s => rfl⟩
  · have step : exec .flushreqFall s = .next ((State.flushRequest { s with flushreqLow := true }).conclude s) := by
      rw [exec_flushreqFall hr, State.act_of_released hr, hlow]
      rfl
    obtain ⟨-, -, -, low, -⟩ := (State.flushRequest { s with flushreqLow := true }).conclude_sameOutside s
    refine ⟨_, step, low.trans (by simp), ?_⟩
    exact State.flushRequested_conclude (s := { s with flushreqLow := true })
      ((State.waiting_congr (by simp)).trans hw) (by simpa using hdone) rfl rfl s
  · rw [exec_flushreqFall hr]
    exact State.act_of_unchanged hs (if_pos hlow)

/-! ### A marker at the tail gives no unit anything to do (R65) -/

namespace Queue

variable {q : List QueueEntry} {b : Fin 16}

/-- What is put at the tail comes behind every entry. -/
theorem before_concat (h : hasEntry q b = true) (e : QueueEntry) : before (q ++ [e]) b = before q b := by
  induction q with
  | nil => cases h
  | cons x q ih =>
    unfold before at ih ⊢
    rw [List.cons_append, List.takeWhile_cons, List.takeWhile_cons]
    cases hx : x.isFor b with
    | true => rfl
    | false =>
      have rest : hasEntry q b = true := by simpa [hasEntry, hx] using h
      rw [ih rest]

theorem fromEntry_concat (h : hasEntry q b = true) (e : QueueEntry) : fromEntry (q ++ [e]) b = fromEntry q b ++ [e] := by
  induction q with
  | nil => cases h
  | cons x q ih =>
    unfold fromEntry at ih ⊢
    rw [List.cons_append, List.dropWhile_cons, List.dropWhile_cons]
    cases hx : x.isFor b with
    | true => rfl
    | false =>
      have rest : hasEntry q b = true := by simpa [hasEntry, hx] using h
      exact ih rest

/-- A marker behind a queue adds no buffer to a stretch of it. -/
theorem takeWhile_marker {p : QueueEntry → Bool} (q : List QueueEntry) (f : Bool) :
    ((q ++ [QueueEntry.marker f]).takeWhile p).filterMap (·.buffer?) = (q.takeWhile p).filterMap (·.buffer?) := by
  induction q with
  | nil =>
    rw [List.nil_append, List.takeWhile_cons]
    split <;> rfl
  | cons e q ih =>
    rw [List.cons_append, List.takeWhile_cons, List.takeWhile_cons]
    split
    · rw [List.filterMap_cons, List.filterMap_cons, ih]
    · rfl

end Queue

namespace State

variable {s : State} {b : Fin 16}

/-- The state with a marker put at the tail of the queue. -/
def markerAdded (s : State) : State := { s with queue := s.queue ++ [.marker false] }

theorem markerAdded_hasEntry (s : State) (b : Fin 16) :
    Queue.hasEntry s.markerAdded.queue b = Queue.hasEntry s.queue b := by
  rw [markerAdded, Queue.hasEntry_concat, QueueEntry.isFor_marker, Bool.or_false]

theorem markerAdded_blocked (s : State) (b : Fin 16) : s.markerAdded.blocked b = s.blocked b := by
  have failed : s.markerAdded.isFailed = s.isFailed := rfl
  rw [blocked, blocked, markerAdded_hasEntry, failed]
  cases h : Queue.hasEntry s.queue b with
  | false => rfl
  | true => rw [markerAdded, Queue.before_concat h]

theorem markerAdded_wanted (s : State) (b : Fin 16) : s.markerAdded.wanted b = s.wanted b := by
  have head : s.markerAdded.headDirty = s.headDirty := by
    rw [headDirty, markerAdded, List.filterMap_append]
    exact congrArg _ (List.append_nil _)
  have low : s.markerAdded.lowOnBuffers = s.lowOnBuffers := rfl
  have part : s.markerAdded.part = s.part := rfl
  rw [wanted, wanted, markerAdded_hasEntry]
  cases h : Queue.hasEntry s.queue b with
  | false => rfl
  | true =>
    rw [show s.markerAdded.queue = s.queue ++ [.marker false] from rfl, Queue.fromEntry_concat h]
    simp only [causeIn, part, head, low, List.any_append, List.any_cons, List.any_nil, QueueEntry.hasOwnCause,
      QueueEntry.isMarked, QueueEntry.isFor_marker, Bool.or_false]

theorem markerAdded_startable (h : Queue.hasEntry s.queue b = true) (x : DeviceState) :
    s.markerAdded.startable x b = s.startable x b := by
  have device : s.markerAdded.deviceOfBuffer b = s.deviceOfBuffer b := rfl
  have marker : Queue.markerBefore s.markerAdded.queue b = Queue.markerBefore s.queue b := by
    rw [Queue.markerBefore, markerAdded, Queue.before_concat h, Queue.markerBefore]
  unfold startable
  rw [device, markerAdded_wanted, marker]
  rfl

theorem markerAdded_resolveAgain (h : s.resolveAgain = none) : s.markerAdded.resolveAgain = none := by
  unfold resolveAgain at h ⊢
  rw [show s.markerAdded.port = s.port from rfl]
  repeat' split at h
  all_goals simp_all

theorem markerAdded_settleHeldWrite (h : s.settleHeldWrite b = none) : s.markerAdded.settleHeldWrite b = none := by
  unfold settleHeldWrite at h ⊢
  rw [markerAdded_hasEntry, markerAdded_blocked, show s.markerAdded.isFailed b = s.isFailed b from rfl]
  by_cases he : Queue.hasEntry s.queue b = true
  · rw [if_pos he] at h ⊢
    simpa using h
  · rw [if_neg he] at h ⊢
    exact markerAdded_resolveAgain h

theorem markerAdded_settleWriteThrough (h : s.settleWriteThrough b = none) : s.markerAdded.settleWriteThrough b = none := by
  unfold settleWriteThrough at h ⊢
  rw [markerAdded_hasEntry, show s.markerAdded.isFailed b = s.isFailed b from rfl]
  by_cases he : Queue.hasEntry s.queue b = true
  · rw [if_pos he] at h ⊢
    simpa using h
  · rw [if_neg he] at h
    cases h

theorem markerAdded_settleFetchRead (h : s.settleFetchRead b = none) : s.markerAdded.settleFetchRead b = none := by
  unfold settleFetchRead at h ⊢
  rw [show s.markerAdded.buffers = s.buffers from rfl]
  by_cases hf : s.buffers[b].fill = true
  · exact if_pos hf
  · rw [if_neg hf] at h ⊢
    exact markerAdded_resolveAgain h

theorem markerAdded_settleDemandRead (h : s.settleDemandRead = none) : s.markerAdded.settleDemandRead = none := by
  unfold settleDemandRead at h ⊢
  rw [show s.markerAdded.stream = s.stream from rfl]
  split at h <;> simp_all

theorem markerAdded_settleAccess (h : s.settleAccess = none) : s.markerAdded.settleAccess = none := by
  have waiting : s.markerAdded.waiting = s.waiting := rfl
  unfold settleAccess at h ⊢
  rw [waiting]
  split at h
  · exact markerAdded_settleHeldWrite h
  · exact markerAdded_settleWriteThrough h
  · exact markerAdded_settleFetchRead h
  · exact markerAdded_settleDemandRead h
  · rfl
  · rfl
  · rfl

theorem markerAdded_settleFlush (h : s.settleFlush = none) : s.markerAdded.settleFlush = none := by
  have pending : Queue.flushPending s.markerAdded.queue = Queue.flushPending s.queue := by
    simp [markerAdded, Queue.flushPending, QueueEntry.isMarked]
  have flushed : Queue.flushedBuffers s.markerAdded.queue = Queue.flushedBuffers s.queue := Queue.takeWhile_marker _ _
  rw [settleFlush_eq_none_iff, flushComplete] at h ⊢
  rw [pending, flushed]
  exact h

theorem markerAdded_settleQueue (h : s.settleQueue = none) : s.markerAdded.settleQueue = none := by
  have front : Queue.frontBuffers s.markerAdded.queue = Queue.frontBuffers s.queue := Queue.takeWhile_marker _ _
  rw [settleQueue_eq_none_iff] at h ⊢
  rw [front]
  intro b hb
  have entry := Queue.hasEntry_of_mem_takeWhile hb
  rw [eligible, meetsButForDevice, markerAdded_startable entry, markerAdded_startable entry]
  exact h b hb

theorem markerAdded_settleBufferWait (h : s.settleBufferWait = none) : s.markerAdded.settleBufferWait = none := by
  have test : s.markerAdded.noBufferTest = s.noBufferTest := by
    simp only [noBufferTest, markerAdded_blocked]
    rfl
  unfold settleBufferWait at h ⊢
  rw [test, show s.markerAdded.waiting = s.waiting from rfl, show s.markerAdded.victim = s.victim from rfl]
  by_cases hw : s.waiting = some .buffer
  · rw [if_pos hw] at h ⊢
    by_cases hv : s.victim.isSome = true
    · rw [if_pos hv] at h ⊢
      exact markerAdded_resolveAgain h
    · rw [if_neg hv] at h ⊢
      simpa using h
  · exact if_neg hw

theorem markerAdded_settleStartup (h : s.settleStartup = none) : s.markerAdded.settleStartup = none := by
  unfold settleStartup at h ⊢
  rw [show s.markerAdded.resetHeld = s.resetHeld from rfl, show s.markerAdded.startup = s.startup from rfl,
    show s.markerAdded.probing = s.probing from rfl,
    show s.markerAdded.readingDescriptor = s.readingDescriptor from rfl]
  by_cases hr : s.resetHeld = true
  · exact if_pos hr
  · rw [if_neg hr] at h ⊢
    cases hp : s.startup.phase with
    | done => rfl
    | probe => simpa [hp] using h
    | read => simpa [hp] using h
    | install => simp [hp] at h

/-- A settled state stays settled when a marker is put at the tail of the queue. -/
theorem settled_markerAdded (h : s.settled) : s.markerAdded.settled := by
  obtain ⟨access, flush, fill, queue, buffer, startup⟩ := settled_iff.mp h
  refine settled_iff.mpr ⟨markerAdded_settleAccess access, markerAdded_settleFlush flush, ?_, markerAdded_settleQueue queue,
    markerAdded_settleBufferWait buffer, markerAdded_settleStartup startup⟩
  exact settleFill_eq_none_iff.mpr (settleFill_eq_none_iff.mp fill :)

theorem barrierRequest_eq (s : State) : s.barrierRequest =
    if s.queue.getLast?.any (fun e => !e.isMarker) then s.markerAdded else s := by
  rw [barrierRequest, Queue.barrier_eq]
  split <;> rfl

/-- After a barrier request a settled state has nothing new to draw (R65). -/
theorem settled_barrierRequest (h : s.settled) : s.barrierRequest.settled := by
  rw [barrierRequest_eq]
  split
  · exact settled_markerAdded h
  · exact h

theorem barrierRequest_shortCondition (s : State) : s.barrierRequest.shortCondition = s.shortCondition := by
  simp only [shortCondition, barrierRequest_queue, Queue.hasEntry_barrier]
  rfl

/-! ### The commands BARRIER and FLUSH (R66, R82, R177) -/

/-- The end of a command's transaction with status DONE, its bytes taken. -/
def commandDone (s : State) (x : Shadow) : State :=
  { s with management := (s.management.taken x).closed .accepted .done }

theorem exec_barrier {x : Shadow} (hr : s.resetHeld = false) (h : s.applies x .barrier) :
    exec .barrier s = .next ((s.barrierRequest.commandDone x).conclude s) := by
  have row := applyRow_of_applies (isKind := fun k => decide (k = .barrier)) hr h rfl
  rw [applyShadow, h.2] at row
  exact row

theorem exec_flush {x : Shadow} (hr : s.resetHeld = false) (h : s.applies x .flush) :
    exec .flush s = .next (((s.takeCommandBytes x).flushRequest.commanded .done).closeTransaction.conclude s) := by
  have row := applyRow_of_applies (isKind := fun k => decide (k = .flush)) hr h rfl
  rw [applyShadow, h.2] at row
  exact row

end State

/-- Settles O48: the BARRIER command leaves a settled state settled; the FLUSH command makes the request that the falling edge of
FLUSHREQ# makes. -/
theorem barrierAndFlushCommands : Obligations.BarrierAndFlushCommands := by
  refine ⟨fun x s hr hs h => ?_, fun x s ⟨hr, hdone⟩ hw h => ⟨_, State.exec_flush hr h, ?_, ?_⟩⟩
  · have same : s.barrierRequest.SameConditions (s.barrierRequest.commandDone x) :=
      ⟨rfl, rfl, rfl, rfl, rfl, rfl, rfl, rfl, rfl, rfl, rfl, rfl, rfl⟩
    have short : (s.barrierRequest.commandDone x).shortCondition = s.shortCondition :=
      same.shortCondition.trans s.barrierRequest_shortCondition
    rw [State.exec_barrier hr h, State.conclude_of_settled (same.settled (State.settled_barrierRequest hs))
      (by rw [short]; cases s.shortCondition <;> simp), ← Queue.barrier_eq]
    rfl
  · obtain ⟨-, -, -, -, -, management⟩ :=
      ((s.takeCommandBytes x).flushRequest.commanded .done).closeTransaction.conclude_sameOutside s
    rw [management]
    simp [State.takeCommandBytes, Management.taken, Management.closed, State.commanded, State.closeTransaction]
  · have port : ((s.takeCommandBytes x).flushRequest.commanded .done).closeTransaction.port = s.port := by
      simp [State.takeCommandBytes]
    have startup : ((s.takeCommandBytes x).flushRequest.commanded .done).closeTransaction.startup = s.startup := by
      simp [State.takeCommandBytes]
    change (s.takeCommandBytes x).flushRequested _
    exact State.flushRequested_conclude ((State.waiting_congr port).trans hw) (by rw [startup, hdone]) rfl rfl s

end Sys2Proof.Machine
end

section
/-! PROOFS. The completion of a program operation: the commit in BUSY, and what no consequence of the step takes from it,
whatever access waits (R31, R92, R93, R116, R120): O26. -/
namespace Sys2Proof.Machine

namespace State

variable {b c : Fin 16} {s t u : State}

/-! ### A commit's stage while an access is resolved again (R38, R53, R76) -/

/-- Where `b` is COMMITTING in `s`, it is so in `t`, in its stage. -/
def KeepsStage (b : Fin 16) (s t : State) : Prop :=
  s.buffers[b].state = .committing → t.buffers[b].state = .committing ∧ t.buffers[b].stage = s.buffers[b].stage

theorem KeepsStage.trans (h : s.KeepsStage b t) (h' : t.KeepsStage b u) : s.KeepsStage b u := fun hc => by
  obtain ⟨committing, stage⟩ := h hc
  obtain ⟨committing', stage'⟩ := h' committing
  exact ⟨committing', stage'.trans stage⟩

theorem KeepsStage.of_buffer (h : s.buffers[b].state = .committing → t.buffers[b] = s.buffers[b]) : s.KeepsStage b t :=
  fun hc => by
    rw [h hc]
    exact ⟨hc, rfl⟩

theorem KeepsStage.of_eq (h : t.buffers = s.buffers) : s.KeepsStage b t := .of_buffer fun _ => by rw [h]

/-- One buffer changes, and it is not COMMITTING. -/
theorem KeepsStage.of_other (others : s.SameBuffersBut c t) (hc : s.buffers[c].state ≠ .committing) : s.KeepsStage b t :=
  .of_buffer fun hb => others b fun h => hc (h ▸ hb)

theorem requestFetch_keepsStage (s : State) (c : Fin 16) : s.KeepsStage b (s.requestFetch c) := fun hc => by
  rw [requestFetch_buffers]
  split
  · rename_i h
    obtain ⟨rfl, -⟩ := h
    exact ⟨hc, rfl⟩
  · exact ⟨hc, rfl⟩

/-- The buffer that an allocation takes is FREE or CLEAN (R39). -/
theorem allocate_keepsStage (hv : s.victim = some c) (g : Tag) : s.KeepsStage b (s.allocate c g) :=
  .of_other (s.allocate_sameBuffersBut c g) fun hc => by
    have entry := victim_hasEntry hv
    rw [hc] at entry
    cases entry

/-- A host byte placed during the commit leaves the stage as it is (R49). -/
theorem placeByte_keepsStage (s : State) (c : Fin 16) (d : Decode) (v : Byte) : s.KeepsStage b (s.placeByte c d v) := fun hb => by
  by_cases h : b = c
  · subst h
    rw [placeByte_buffer, if_neg (by rw [hb]; decide)]
    exact ⟨hb, rfl⟩
  · rw [s.placeByte_sameBuffersBut c d v b h]
    exact ⟨hb, rfl⟩

theorem resolveRead_keepsStage (s : State) (d : Decode) : s.KeepsStage b (s.resolveRead d) := by
  have waits (u : State) (w : Wait) : u.KeepsStage b (u.waitOn w) := .of_eq (by simp)
  unfold resolveRead
  split
  · unfold readResident
    split
    · exact .of_eq (by simp)
    · split
      · exact .of_eq (by simp)
      · refine .trans ?_ (waits _ _)
        split
        · exact .of_eq rfl
        · exact s.requestFetch_keepsStage _
  · unfold readAbsent
    split
    · exact .of_eq (by simp)
    · split
      · exact .of_eq (by simp)
      · exact (allocate_keepsStage ‹_› _).trans ((requestFetch_keepsStage _ _).trans (waits _ _))

theorem resolveWrite_keepsStage (s : State) (address : HostAddress) (d : Decode) (v : Byte) :
    s.KeepsStage b (s.resolveWrite address d v) := by
  have applied (u : State) (c : Fin 16) : u.KeepsStage b ((u.placeByte c d v).finishWrite c address d v) :=
    (u.placeByte_keepsStage c d v).trans (.of_eq (by simp))
  unfold resolveWrite
  split
  · exact applied s _
  · split
    · exact .of_eq (by simp)
    · exact (allocate_keepsStage ‹_› _).trans (applied _ _)

theorem resolveAgain_keepsStage (h : s.resolveAgain = some t) : s.KeepsStage b t ∧ t.transmit = s.transmit := by
  unfold resolveAgain at h
  split at h
  · cases h
  · split at h
    · cases h
      exact ⟨s.resolveRead_keepsStage _, by simp⟩
    · cases h
      exact ⟨s.resolveWrite_keepsStage _ _ _, by simp⟩
    · cases h

/-! ### A commit in BUSY (R93) -/

/-- A stopped commit releases a copy and makes none (R104). -/
theorem stopCommit_released {d : Fin 4} (h : s.transmit[d] = none) (c : Fin 16) : (s.stopCommit c).transmit[d] = none := by
  have ended (u : State) (hu : u.transmit[d] = none) : (u.endDirty c).transmit[d] = none := by
    rw [endDirty_eq, setBuffer_transmit]
    unfold withdrawCommit
    split
    · exact hu
    · rw [releaseSpan_transmit, vector_set_fin]
      split
      · rfl
      · exact hu
  unfold stopCommit
  dsimp only
  split
  · exact ended _ h
  · exact ended _ h

/-- In service, `b` is in BUSY, the device `d` is PROGRAMMING, and the transmit store holds no copy for it. -/
structure InBusy (b : Fin 16) (d : Fin 4) (s : State) : Prop where
  done : s.startup.phase = .done
  committing : s.buffers[b].state = .committing
  stage : s.buffers[b].stage = some .busy
  programming : s.devices[d].state = .programming
  released : s.transmit[d] = none

variable {d : Fin 4}

/-- Stage and copy are all that a consequence could take: the device records stand. -/
theorem InBusy.of_drawn (h : s.InBusy b d) (ht : Drawn s t) (hb : s.KeepsStage b t) (hr : t.transmit[d] = none) : t.InBusy b d := by
  obtain ⟨startup, devices⟩ := ht.sameDevices h.done
  obtain ⟨committing, stage⟩ := hb h.committing
  exact ⟨by rw [startup, h.done], committing, stage.trans h.stage, by rw [devices, h.programming], hr⟩

/-- No entry of a PROGRAMMING device is taken (R71, R72). -/
theorem InBusy.other_device (h : s.InBusy b d) {x : DeviceState} (hc : s.startable x c = true) (hx : x ≠ .programming) :
    s.deviceOfBuffer c ≠ some d := fun hd => by
  obtain ⟨e, he, -, -, -, state, -⟩ := startable_iff.mp hc
  have hed : e = d := Option.some.inj (he.symm.trans hd)
  rw [hed, h.programming] at state
  exact hx state.symm

theorem InBusy.drawn (h : s.InBusy b d) (ht : Drawn s t) : t.InBusy b d := by
  refine h.of_drawn ht ?_ ?_
  · cases ht with
    | resolved _ _ ht => exact (resolveAgain_keepsStage ht).1
    | stopped c _ hc =>
      refine .of_buffer fun _ => s.stopCommit_sameBuffersBut c b fun hbc => ?_
      subst hbc
      cases h.stage.symm.trans (engineWaits_iff.mp hc).2
    | started c hc => exact .of_other (s.startCommit_sameBuffersBut c) (by rw [startable_dirty hc]; decide)
    | handedOver c hc => exact .of_other (s.becomeFailed_sameBuffersBut c) (by rw [startable_dirty hc]; decide)
    | probed hp _ => cases h.done.symm.trans hp
    | startedUp hp _ => rcases hp with hp | hp <;> cases h.done.symm.trans hp
    | _ => exact .of_eq (by simp)
  · cases ht with
    | resolved _ _ ht => rw [(resolveAgain_keepsStage (b := b) ht).2, h.released]
    | stopped c _ _ => exact stopCommit_released h.released c
    | started c hc => rw [(s.startCommit_commitOf c).transmit d (h.other_device hc (by decide)), h.released]
    | handedOver c hc => exact ((s.becomeFailed_commitOf c).transmit d (h.other_device hc (by decide))).trans h.released
    | probed hp _ => cases h.done.symm.trans hp
    | startedUp hp _ => rcases hp with hp | hp <;> cases h.done.symm.trans hp
    | _ => simpa using h.released

/-- A commit in BUSY is so at the end of the step. -/
theorem InBusy.conclude (h : s.InBusy b d) (before : State) : (s.conclude before).InBusy b d := by
  have settled : s.settle.InBusy b d := settle_induct (P := InBusy b d) (fun _ _ hu ht => hu.drawn ht) h
  unfold State.conclude noteShort
  split
  · exact ⟨settled.done, settled.committing, settled.stage, settled.programming, settled.released⟩
  · exact settled

/-! ### The completion (R93, R116, R120) -/

/-- The state of PROGRAM_COMPLETE before its consequences are drawn: the link free, the counter moved, the commit in BUSY. -/
def programmed (s : State) (l : LinkOperation) (b : Fin 16) : State :=
  ((s.freeLink l).moveCounter l (programEndAddress l.operation)).enterBusy b l.operation.device

variable {l : LinkOperation}

theorem exec_programComplete (hr : s.resetHeld = false) (h : s.runs l (.program b)) (hs : s.inStage b .send = true) :
    exec .programComplete s = .next ((s.programmed l b).conclude s) := by
  obtain ⟨hl, hk⟩ := h
  have stage : ((s.freeLink l).moveCounter l (programEndAddress l.operation)).inStage b .send = true := by
    rw [inStage_iff] at hs ⊢
    simpa using hs
  simp only [exec, execProgramComplete, act_of_released hr, hl, hk, stage, if_true]
  rfl

/-- The counter after the transfer, which a capacity change during it keeps UNKNOWN (R31, R116). -/
theorem freeLink_moveCounter_device (s : State) (l : LinkOperation) (address : Nat) :
    ((s.freeLink l).moveCounter l address).devices[l.operation.device] =
      if l.counterLost then { s.devices[l.operation.device] with counter := none }
      else s.devices[l.operation.device].moveCounter address := by
  unfold State.moveCounter
  dsimp only
  split <;> exact (devices_setDevice _ _ _ _).trans (if_pos rfl)

/-- The device record of the completed operation: PROGRAMMING, with both its deadlines. -/
theorem programmed_device (s : State) (l : LinkOperation) (b : Fin 16) :
    (s.programmed l b).devices[l.operation.device] =
      { ((s.freeLink l).moveCounter l (programEndAddress l.operation)).devices[l.operation.device] with
        state := .programming
        pollDue := some (max s.now l.endTime + 4000)
        timeout := some (max s.now l.endTime + s.settings.programTimeout * 16000) } := by
  have now : ((s.freeLink l).moveCounter l (programEndAddress l.operation)).now = max s.now l.endTime := by simp [freeLink]
  have settings : ((s.freeLink l).moveCounter l (programEndAddress l.operation)).settings = s.settings := by simp
  rw [← now, ← settings]
  exact (devices_setDevice _ _ _ _).trans (if_pos rfl)

theorem programmed_inBusy (hd : s.startup.phase = .done) (hs : s.inStage b .send = true) (l : LinkOperation) :
    (s.programmed l b).InBusy b l.operation.device := by
  obtain ⟨committing, -⟩ := inStage_iff.mp hs
  have self : (s.programmed l b).buffers[b] = { s.buffers[b] with stage := some .busy } := by
    simp [programmed, enterBusy]
  have released : (s.programmed l b).transmit[l.operation.device] = none := (vector_set_fin _ _ _ none).trans (if_pos rfl)
  exact ⟨by simpa [programmed, enterBusy] using hd, by rw [self, committing], by rw [self], by rw [programmed_device], released⟩

end State

/-- Settles O26: the operation leaves the commit in BUSY on a PROGRAMMING device, whose entries no consequence takes; and an
access resolved again writes neither the stage nor the transmit store. -/
theorem programCompletionMakesDeviceProgramming : Obligations.ProgramCompletionMakesDeviceProgramming := by
  intro l b s ⟨hr, hdone⟩ h hs
  have busy := State.programmed_inBusy hdone hs l
  have ended := busy.conclude s
  have alone : (s.programmed l b).LeavesAlone .commits true _ := State.conclude_leavesAlone busy.done s
  obtain ⟨devices, link⟩ := alone.link (.inr (.inl rfl))
  have idle : (s.programmed l b).link = none := by simp [State.programmed, State.enterBusy, State.freeLink]
  have now : ((s.programmed l b).conclude s).now = max s.now l.endTime := by
    simp [State.programmed, State.enterBusy, State.freeLink]
  refine ⟨_, State.exec_programComplete hr h hs, ?_, now, ended.programming, ?_, ?_, ended.committing, ended.stage,
    ended.released, fun habsent => ?_⟩
  · rw [idle] at link
    exact Option.map_eq_none_iff.mp link
  · rw [devices, s.programmed_device, now]
  · rw [devices, s.programmed_device, now]
  · rw [devices, s.programmed_device]
    change (State.devices _)[l.operation.device].counter = _
    rw [State.freeLink_moveCounter_device]
    split
    · rfl
    · exact if_neg habsent

end Sys2Proof.Machine
end

section
/-! PROOFS. What the consequences of a step make of a buffer with an entry; RETRY and DISCARD of a FAILED buffer (R72, R73, R87,
R105, R106): O49. -/
namespace Sys2Proof.Machine

namespace State

variable {b c : Fin 16} {s t u : State}

/-! ### A buffer through the consequences of a step (R71, R72, R104) -/

/-- A consequence on commits leaves the record of a buffer that is neither DIRTY nor in FILL as it is. -/
theorem CommitStep.unchanged (h : s.CommitStep t) (hd : s.buffers[b].state ≠ .dirty) (hf : s.engineWaits b = false) :
    t.buffers[b] = s.buffers[b] := by
  cases h with
  | flushed => simp
  | stopped c _ hc => exact s.stopCommit_sameBuffersBut c b fun h => by rw [h, hc] at hf; cases hf
  | started c hc => exact s.startCommit_sameBuffersBut c b fun h => hd (h ▸ startable_dirty hc)
  | handedOver c hc => exact s.becomeFailed_sameBuffersBut c b fun h => hd (h ▸ startable_dirty hc)

/-- A DIRTY or COMMITTING buffer stays one of these, or is handed over for its ABSENT device. -/
theorem CommitStep.unsaved_or_handedOver (h : s.CommitStep t) (hb : s.Unsaved b) :
    t.Unsaved b ∨ s.meetsButForDevice b = true ∧ t = s.becomeFailed b := by
  have other {c : Fin 16} {u : State} (others : s.SameBuffersBut c u) (hne : b ≠ c) : u.Unsaved b := by
    rw [Unsaved, others b hne]
    exact hb
  cases h with
  | flushed => exact .inl (by simpa [Unsaved] using hb)
  | stopped c _ _ =>
    by_cases hbc : b = c
    · exact .inl (.inl (hbc ▸ (s.stopCommit_buffer c).1))
    · exact .inl (other (s.stopCommit_sameBuffersBut c) hbc)
  | started c _ =>
    by_cases hbc : b = c
    · exact .inl (hbc ▸ (s.startCommit_state c).symm)
    · exact .inl (other (s.startCommit_sameBuffersBut c) hbc)
  | handedOver c hc =>
    by_cases hbc : b = c
    · subst hbc
      exact .inr ⟨hc, rfl⟩
    · exact .inl (other (s.becomeFailed_sameBuffersBut c) hbc)

/-- The device of an entry that is handed over is ABSENT (R72). -/
theorem absent_of_meetsButForDevice {d : Fin 4} (h : s.meetsButForDevice b = true) (hd : s.deviceOfBuffer b = some d) :
    s.devices[d].state = .absent := by
  obtain ⟨e, he, -, -, -, state, -⟩ := startable_iff.mp h
  rwa [Option.some.inj (he.symm.trans hd)] at state

/-- What may become of a buffer with an entry on the device `d`: it is DIRTY or COMMITTING, or FAILED with COMMIT_FAIL raised,
the device being ABSENT. -/
def Retried (b : Fin 16) (d : Fin 4) (s : State) : Prop :=
  s.Unsaved b ∨ s.devices[d].state = .absent ∧ s.buffers[b].state = .failed ∧ s.flagSet .commitFail = true

theorem Retried.step {d : Fin 4} (h : s.Retried b d) (hd : s.deviceOfBuffer b = some d) (ht : s.CommitStep t) : t.Retried b d := by
  have commits := ht.commitsOnly
  rcases h with hb | ⟨absent, failed, flag⟩
  · refine (ht.unsaved_or_handedOver hb).imp id fun ⟨hm, he⟩ => ?_
    subst he
    exact ⟨by simpa using absent_of_meetsButForDevice hm hd, by rw [becomeFailed_buffer], flagSet_raise _ _⟩
  · refine .inr ⟨by rw [commits.devices, absent], ?_, commits.flags _ flag⟩
    rw [ht.unchanged (by rw [failed]; decide) (by rw [engineWaits, failed]; rfl), failed]

/-- With no access waiting, the consequences of a step are on commits, and leave such a buffer such a one. -/
theorem Retried.conclude {d : Fin 4} (h : s.Retried b d) (hd : s.deviceOfBuffer b = some d) (hw : s.waiting = none)
    (hdone : s.startup.phase = .done) (before : State) : (s.conclude before).Retried b d := by
  refine (conclude_commits_induct (P := fun t => s.CommitsOnly t ∧ t.Retried b d) (fun u ⟨hc, _⟩ => ?_)
    (fun u t ⟨hc, hu⟩ ht => ?_) (fun u ⟨hc, hu⟩ => ?_) ⟨.refl s, h⟩ before).2
  · exact quiet_of_idle ((waiting_congr hc.port).trans hw) (by rw [hc.startup, hdone])
  · exact ⟨hc.trans ht.commitsOnly, hu.step ((deviceOfBuffer_congr (hc.buffers b).tag).trans hd) ht⟩
  · have raised := u.raise_commitsOnly .holdupShort
    exact ⟨hc.trans raised, hu.imp id fun ⟨absent, failed, flag⟩ => ⟨absent, failed, raised.flags _ flag⟩⟩

/-! ### The buffer that the argument names (R105, R106) -/

theorem failedArgument_of_failed (ha : s.management.argument.toNat = b.val) (hf : s.buffers[b].state = .failed) :
    s.failedArgument = some b := by
  have failed : s.isFailed b = true := decide_eq_true hf
  simp [failedArgument, ha, b.isLt, failed]

theorem failedArgument_of_none (h : ∀ b : Fin 16, s.management.argument.toNat = b.val → s.buffers[b].state ≠ .failed) :
    s.failedArgument = none := by
  unfold failedArgument
  split
  · rename_i hlt
    exact if_neg fun hf => h ⟨_, hlt⟩ rfl (of_decide_eq_true hf)
  · rfl

variable {x : Shadow}

/-- A command that is refused has no effect but its statuses, whatever the kind. -/
theorem applyRow_of_commandRefused {k : ApplyKind} {isKind : ApplyKind → Bool} (hr : s.resetHeld = false) (hs : s.settled)
    (h : s.applies x k) (hk : isKind k = true) (hx : s.applyShadow x = (s.takeCommandBytes x).commanded .refused) :
    s.applyRow isKind = .next { s with management := (s.management.taken x).closed .accepted .refused } := by
  have same : s.SameConditions (s.applyShadow x).closeTransaction := by
    rw [hx]
    constructor <;> simp [takeCommandBytes]
  rw [applyRow_of_sameConditions hr hs h hk same, hx]
  rfl

/-! ### RETRY (R105) -/

theorem retryCommand_of_named (h : s.failedArgument = some b) : s.retryCommand =
    ((s.setBuffer b { s.buffers[b] with state := .dirty, attempts := 0 }).givePush b).commanded .done := by
  rw [retryCommand, h]

theorem retryCommand_of_unnamed (h : s.failedArgument = none) : s.retryCommand = s.commanded .refused := by
  rw [retryCommand, h]

/-- The state of RETRY of `b` before its consequences are drawn: DIRTY with attempts 0, its entry pushed, status DONE. -/
def retried (s : State) (x : Shadow) (b : Fin 16) : State :=
  ((((s.takeCommandBytes x).setBuffer b { (s.takeCommandBytes x).buffers[b] with state := .dirty, attempts := 0 }).givePush
    b).commanded .done).closeTransaction

theorem exec_retry (hr : s.resetHeld = false) (h : s.applies x .retry) (ha : (s.management.taken x).argument.toNat = b.val)
    (hf : s.buffers[b].state = .failed) : exec .retry s = .next ((s.retried x b).conclude s) := by
  have row := applyRow_of_applies (isKind := fun k => decide (k = .retry)) hr h rfl
  have named : (s.takeCommandBytes x).failedArgument = some b := failedArgument_of_failed ha hf
  have applied : s.applyShadow x = (s.takeCommandBytes x).retryCommand := by rw [applyShadow, h.2]
  rw [applied, retryCommand_of_named named] at row
  exact row

theorem exec_retry_of_refused (hr : s.resetHeld = false) (hs : s.settled) (h : s.applies x .retry)
    (ha : ∀ b : Fin 16, (s.management.taken x).argument.toNat = b.val → s.buffers[b].state ≠ .failed) :
    exec .retry s = .next { s with management := (s.management.taken x).closed .accepted .refused } := by
  have named : (s.takeCommandBytes x).failedArgument = none := failedArgument_of_none ha
  refine applyRow_of_commandRefused (isKind := fun k => decide (k = .retry)) hr hs h rfl ?_
  rw [applyShadow, h.2]
  exact retryCommand_of_unnamed named

theorem retried_frame (s : State) (x : Shadow) (b : Fin 16) : (s.retried x b).port = s.port ∧
    (s.retried x b).startup = s.startup ∧ (s.retried x b).devices = s.devices ∧
    (s.retried x b).queue = Queue.givePush s.queue b ∧
    (s.retried x b).buffers[b] = { s.buffers[b] with state := .dirty, attempts := 0 } ∧
    (s.retried x b).management = (s.management.taken x).closed .accepted .done := by
  simp [retried, takeCommandBytes, Management.taken, Management.closed, commanded, closeTransaction, State.givePush]

/-! ### DISCARD (R106) -/

theorem discardCommand_of_named {g : Tag} (h : s.failedArgument = some b) (hg : s.buffers[b].tag = some g) :
    s.discardCommand = ((s.streamDiscarded g.device g.page).freeBuffer b).commanded .done := by
  rw [discardCommand, h]
  dsimp only
  rw [hg]

theorem discardCommand_of_unnamed (h : s.failedArgument = none) : s.discardCommand = s.commanded .refused := by
  rw [discardCommand, h]

/-- The state of DISCARD of `b`, tagged `g`, before its consequences are drawn: the Window has its page, the buffer is freed. -/
def discarded (s : State) (x : Shadow) (b : Fin 16) (g : Tag) : State :=
  ((((s.takeCommandBytes x).streamDiscarded g.device g.page).freeBuffer b).commanded .done).closeTransaction

theorem exec_discard {g : Tag} (hr : s.resetHeld = false) (h : s.applies x .discard)
    (ha : (s.management.taken x).argument.toNat = b.val) (hf : s.buffers[b].state = .failed) (hg : s.buffers[b].tag = some g) :
    exec .discard s = .next ((s.discarded x b g).conclude s) := by
  have row := applyRow_of_applies (isKind := fun k => decide (k = .discard)) hr h rfl
  have named : (s.takeCommandBytes x).failedArgument = some b := failedArgument_of_failed ha hf
  have tag : (s.takeCommandBytes x).buffers[b].tag = some g := hg
  have applied : s.applyShadow x = (s.takeCommandBytes x).discardCommand := by rw [applyShadow, h.2]
  rw [applied, discardCommand_of_named named tag] at row
  exact row

theorem exec_discard_of_refused (hr : s.resetHeld = false) (hs : s.settled) (h : s.applies x .discard)
    (ha : ∀ b : Fin 16, (s.management.taken x).argument.toNat = b.val → s.buffers[b].state ≠ .failed) :
    exec .discard s = .next { s with management := (s.management.taken x).closed .accepted .refused } := by
  have named : (s.takeCommandBytes x).failedArgument = none := failedArgument_of_none ha
  refine applyRow_of_commandRefused (isKind := fun k => decide (k = .discard)) hr hs h rfl ?_
  rw [applyShadow, h.2]
  exact discardCommand_of_unnamed named

theorem discarded_frame (s : State) (x : Shadow) (b : Fin 16) (g : Tag) : (s.discarded x b g).port = s.port ∧
    (s.discarded x b g).startup = s.startup ∧ (s.discarded x b g).recency = s.recency.erase b ∧
    (s.discarded x b g).buffers[b] = PageBuffer.freed ∧
    (s.discarded x b g).management = (s.management.taken x).closed .accepted .done := by
  have freed := ((s.takeCommandBytes x).streamDiscarded g.device g.page).freeBuffer_buffers b b
  have recency := ((s.takeCommandBytes x).streamDiscarded g.device g.page).freeBuffer_recency b
  rw [if_pos rfl] at freed
  refine ⟨?_, ?_, ?_, freed, ?_⟩
  · simp [discarded, takeCommandBytes]
  · simp [discarded, takeCommandBytes]
  · exact recency.trans (by simp [takeCommandBytes])
  · simp [discarded, takeCommandBytes, Management.taken, Management.closed, commanded, closeTransaction]

end State

/-- Settles O49: RETRY leaves the buffer DIRTY with a pushed entry, and what follows with no access waiting starts its commit, or
hands it over to be FAILED where its device is ABSENT; what DISCARD frees stays FREE and without an entry. A refused command
writes nothing that a consequence's condition reads. -/
theorem retryAndDiscardCommands : Obligations.RetryAndDiscardCommands := by
  refine ⟨fun x m s ⟨hr, hdone⟩ h hm => ⟨fun b g hc hw ha hf hg => ?_, fun ha hs => ?_⟩,
    fun x m s ⟨hr, hdone⟩ h hm => ⟨fun b hc hw ha hf => ?_, fun ha hs => ?_⟩⟩
  all_goals subst hm
  · obtain ⟨hport, hstartup, hdevices, hqueue, record, hmanagement⟩ := s.retried_frame x b
    have idle : (s.retried x b).waiting = none := (State.waiting_congr hport).trans hw
    have done : (s.retried x b).startup.phase = .done := by rw [hstartup, hdone]
    have rest : (s.retried x b).AtRest := ⟨done, .inl idle⟩
    have commits := rest.conclude s
    have keeps := commits.buffers b
    have start : (s.retried x b).Retried b g.device := .inl (.inl (by rw [record]))
    have device : (s.retried x b).deviceOfBuffer b = some g.device := by rw [State.deviceOfBuffer, record, hg]; rfl
    have entry : Queue.hasEntry s.queue b = true := by rw [hc.hasEntry, hf]; rfl
    refine ⟨_, State.exec_retry hr h ha hf, commits.management.trans hmanagement, ?_, ?_, ?_, ?_⟩
    · have ended := start.conclude device idle done s
      rw [State.Retried, commits.devices, hdevices, or_assoc] at ended
      exact ended
    · rw [keeps.attempts, record]
    · rw [keeps.data, record]
    · rw [Queue.pushed_congr commits.queue, hqueue]
      exact Queue.pushed_givePush entry
  · exact State.exec_retry_of_refused hr hs h ha
  · obtain ⟨-, records, -, -, ⟨nodup, -⟩, -⟩ := id hc
    obtain ⟨-, -, tagged, -⟩ := (PageBuffer.fits_failed hf).mp (records b).2
    obtain ⟨g, hg⟩ := Option.ne_none_iff_exists'.mp tagged
    obtain ⟨hport, hstartup, hrecency, hfreed, hmanagement⟩ := s.discarded_frame x b g
    have rest : (s.discarded x b g).AtRest := ⟨by rw [hstartup, hdone], .inl ((State.waiting_congr hport).trans hw)⟩
    have commits := rest.conclude s
    have free : ((s.discarded x b g).conclude s).buffers[b] = PageBuffer.freed :=
      (commits.idle b (by rw [hfreed]; rfl)).trans hfreed
    have ended := exec_coherent (State.exec_discard hr h ha hf hg) hc
    refine ⟨_, State.exec_discard hr h ha hf hg, commits.management.trans hmanagement, free, ?_, ?_⟩
    · rw [ended.hasEntry, free]
      rfl
    · rw [commits.recency, hrecency]
      exact nodup.not_mem_erase
  · exact State.exec_discard_of_refused hr hs h ha

end Sys2Proof.Machine
end

section
/-! PROOFS. The good end of a commit and what waits on it: the buffer CLEAN with its entry gone, or DIRTY again with its entry
in place; a CHECK read that agrees or differs (R73, R76, R78, R79, R97, R98, R99, R100, R103): O30. -/
namespace Sys2Proof.Machine

namespace Queue

variable {q : List QueueEntry} {b : Fin 16}

/-- An entry that is removed is gone (R63, R64). -/
theorem hasEntry_removed (q : List QueueEntry) (b : Fin 16) : hasEntry (normalise (without q b)) b = false := by
  obtain ⟨spaced, count, -⟩ := mergeMarkers_spec (without q b)
  obtain ⟨-, -, count', -⟩ := dropHeadMarker_spec spaced
  rw [hasEntry_eq_false, normalise, count', count, countP_isFor_without, if_pos rfl]

/-- An entry with no marker before it is in the front generation. -/
theorem mem_frontBuffers (h : hasEntry q b = true) (hm : markerBefore q b = false) : b ∈ frontBuffers q := by
  induction q with
  | nil => cases h
  | cons e q ih =>
    rw [markerBefore_cons] at hm
    cases e with
    | marker f => cases hm
    | buffer c aged push =>
      have front : frontBuffers (.buffer c aged push :: q) = c :: frontBuffers q := rfl
      rw [front, List.mem_cons]
      by_cases hc : c = b
      · exact .inl hc.symm
      · simp only [hasEntry, List.any_cons, QueueEntry.isFor_buffer, decide_eq_false hc, Bool.false_or] at h
        simp only [QueueEntry.isFor_buffer, decide_eq_false hc, QueueEntry.isMarker_buffer, Bool.not_false, Bool.true_and,
          Bool.false_or] at hm
        exact .inr (ih h hm)

/-- Where the entry of `b` has an own cause, one stands in the queue from its entry on (R67). -/
theorem ownCause_fromEntry (h : pushed q b = true ∨ aged q b = true) :
    hasEntry q b = true ∧ (fromEntry q b).any (·.hasOwnCause) = true := by
  have own : ∃ e ∈ q, e.isFor b = true ∧ e.hasOwnCause = true := by
    rcases h with h | h
    · obtain ⟨e, he, hp⟩ := List.any_eq_true.mp h
      cases e with
      | marker f => cases hp
      | buffer c aged push =>
        obtain ⟨hc, rfl⟩ := Bool.and_eq_true_iff.mp hp
        exact ⟨_, he, hc, Bool.or_true aged⟩
    · obtain ⟨e, he, hp⟩ := List.any_eq_true.mp h
      cases e with
      | marker f => cases hp
      | buffer c aged push =>
        obtain ⟨hc, rfl⟩ := Bool.and_eq_true_iff.mp hp
        exact ⟨_, he, hc, Bool.true_or push⟩
  obtain ⟨e, he, hfor, hown⟩ := own
  refine ⟨List.any_eq_true.mpr ⟨e, he, hfor⟩, List.any_eq_true.mpr ⟨e, ?_, hown⟩⟩
  rw [← List.takeWhile_append_dropWhile (p := fun e => !e.isFor b) (l := q), List.mem_append] at he
  refine he.resolve_left fun hbefore => ?_
  have passed := List.mem_takeWhile_imp hbefore
  rw [hfor] at passed
  cases passed

end Queue

namespace State

variable {b c : Fin 16} {d : Fin 4} {s t u v : State}

/-! ### The consequences of a step, the first of them known -/

/-- The end of a step is that of the state after its next consequence: the bound on them is reached by neither (log entry 4). -/
theorem conclude_of_consequence (h : s.consequence = some t) (before : State) : s.conclude before = t.conclude before := by
  have lower := consequence_lowers h
  have bound := s.consequencesLeft_le
  have more (n : Nat) (u : State) (hu : u.consequencesLeft ≤ n) : settleFor (n + 1) u = settleFor n u := by
    induction n generalizing u with
    | zero =>
      have settled : u.consequence = none := settleFor_settled hu
      simp only [settleFor, settled]
    | succ n ih =>
      rw [settleFor, settleFor]
      split
      · rfl
      · rename_i w hw
        have less := consequence_lowers hw
        exact ih w (by omega)
  have rest : t.settle = settleFor 127 t := more 127 t (by rw [Config.settleBound] at bound; omega)
  have first : s.settle = settleFor 127 t := by rw [settle, Config.settleBound, settleFor, h]
  rw [conclude, conclude, first, rest]

theorem consequence_of_access (h : s.settleAccess = some t) : s.consequence = some t := by
  rw [consequence, h]
  rfl

/-- With no access waiting, a buffer that is neither DIRTY nor in FILL ends the step as it is. -/
theorem conclude_unchanged (hw : s.waiting = none) (hdone : s.startup.phase = .done) (hd : s.buffers[b].state ≠ .dirty)
    (hf : s.engineWaits b = false) (before : State) : (s.conclude before).buffers[b] = s.buffers[b] := by
  refine (conclude_commits_induct (P := fun t => s.CommitsOnly t ∧ t.buffers[b] = s.buffers[b]) (fun u ⟨hc, _⟩ => ?_)
    (fun u t ⟨hc, hu⟩ ht => ⟨hc.trans ht.commitsOnly, ?_⟩) (fun u ⟨hc, hu⟩ => ⟨hc.trans (u.raise_commitsOnly _), hu⟩)
    ⟨.refl s, rfl⟩ before).2
  · exact quiet_of_idle ((waiting_congr hc.port).trans hw) (by rw [hc.startup, hdone])
  · have waits : u.engineWaits b = false := by
      rw [engineWaits] at hf ⊢
      rw [hu, hf]
    rw [ht.unchanged (by rw [hu]; exact hd) waits, hu]

/-! ### The good end of a commit (R99) -/

/-- Nothing was rewritten: the buffer is CLEAN and its entry is removed. -/
theorem endWell_of_clean (h : s.buffers[b].dirty = 0) : s.endWell b = ((s.withdrawCommit b).setBuffer b
    { s.buffers[b] with state := .clean, inFlight := 0, stage := none, sent := none }).removeEntry b := by
  have same : (s.withdrawCommit b).buffers = s.buffers := by simp
  unfold endWell
  dsimp only
  rw [same]
  exact if_pos h

/-- Bytes were rewritten: the buffer is DIRTY and its entry stays. -/
theorem endWell_of_rewritten (h : s.buffers[b].dirty ≠ 0) : s.endWell b = (s.withdrawCommit b).setBuffer b
    { s.buffers[b] with state := .dirty, inFlight := 0, stage := none, sent := none } := by
  have same : (s.withdrawCommit b).buffers = s.buffers := by simp
  unfold endWell
  dsimp only
  rw [same]
  exact if_neg h

theorem endWell_cleaned (h : s.buffers[b].dirty = 0) : (s.endWell b).buffers[b] = s.buffers[b].cleaned ∧
    Queue.hasEntry (s.endWell b).queue b = false := by
  rw [endWell_of_clean h]
  refine ⟨?_, ?_⟩
  · rw [removeEntry_buffer, buffers_setBuffer_self]
    rfl
  · rw [removeEntry_queue]
    exact Queue.hasEntry_removed _ b

theorem endWell_sameBuffersBut (s : State) (b : Fin 16) : s.SameBuffersBut b (s.endWell b) := by
  have withdrawn : s.SameBuffersBut b (s.withdrawCommit b) := .of_eq (by simp)
  by_cases h : s.buffers[b].dirty = 0
  · rw [endWell_of_clean h]
    exact withdrawn.trans ((setBuffer_sameBuffersBut _ b _).trans (removeEntry_sameBuffersBut _ b))
  · rw [endWell_of_rewritten h]
    exact withdrawn.trans (setBuffer_sameBuffersBut _ b _)

/-- With no access waiting, the buffer is CLEAN at the end of the step and its entry gone. -/
theorem endWell_conclude_clean (h : s.buffers[b].dirty = 0) (hw : s.waiting = none) (hdone : s.startup.phase = .done)
    (before : State) : ((s.endWell b).conclude before).buffers[b] = s.buffers[b].cleaned ∧
      Queue.hasEntry ((s.endWell b).conclude before).queue b = false := by
  obtain ⟨record, entry⟩ := endWell_cleaned h
  have idle : (s.endWell b).waiting = none := (waiting_congr (by simp)).trans hw
  have done : (s.endWell b).startup.phase = .done := by simpa using hdone
  have rest : (s.endWell b).AtRest := ⟨done, .inl idle⟩
  refine ⟨?_, (Queue.hasEntry_congr (rest.conclude before).queue b).trans entry⟩
  rw [conclude_unchanged idle done (by rw [record]; exact nofun) (by rw [engineWaits, record]; rfl), record]

/-! ### The access that waits on the entry (R76, R78, R79) -/

theorem findBuffer_congr (h : ∀ b : Fin 16, (t.buffers[b].state = .free ↔ s.buffers[b].state = .free) ∧
    t.buffers[b].tag = s.buffers[b].tag) (device : Fin 4) (page : Nat) : t.findBuffer device page = s.findBuffer device page := by
  unfold findBuffer
  congr 1
  funext b
  obtain ⟨free, tag⟩ := h b
  rw [tag, decide_eq_decide.mpr (not_congr free)]

/-- In service the access waits for the entry of `b`, on the device `d`, which is not ABSENT, so that the entry is not handed
over. -/
structure AwaitsEntry (b : Fin 16) (d : Fin 4) (s : State) : Prop where
  done : s.startup.phase = .done
  waits : s.waiting = some (.entry b)
  entry : Queue.hasEntry s.queue b = true
  unsaved : s.Unsaved b
  device : s.deviceOfBuffer b = some d
  present : s.devices[d].state ≠ .absent

theorem AwaitsEntry.quiet (h : s.AwaitsEntry b d) : s.Quiet := by
  have unfailed : s.isFailed b = false := by
    rcases h.unsaved with hb | hb
    · rw [isFailed, hb]; rfl
    · rw [isFailed, hb]; rfl
  refine ⟨?_, if_neg (by rw [h.waits]; exact nofun), h.done⟩
  simp only [settleAccess, h.waits, settleWriteThrough, h.entry, unfailed]
  rfl

theorem AwaitsEntry.of_commitsOnly (h : s.AwaitsEntry b d) (hc : s.CommitsOnly t) (hb : t.Unsaved b) : t.AwaitsEntry b d where
  done := by rw [hc.startup, h.done]
  waits := (waiting_congr hc.port).trans h.waits
  entry := (Queue.hasEntry_congr hc.queue b).trans h.entry
  unsaved := hb
  device := (deviceOfBuffer_congr (hc.buffers b).tag).trans h.device
  present := by rw [hc.devices]; exact h.present

/-- Without the hand-over, a DIRTY or COMMITTING buffer stays one of these. -/
theorem CommitStep.unsaved_of_present (h : s.CommitStep t) (hb : s.Unsaved b) (hd : s.deviceOfBuffer b = some d)
    (hp : s.devices[d].state ≠ .absent) : t.Unsaved b :=
  (h.unsaved_or_handedOver hb).resolve_right fun ⟨hm, _⟩ => hp (absent_of_meetsButForDevice hm hd)

/-- The access waits still at the end of the step. -/
theorem AwaitsEntry.conclude (h : s.AwaitsEntry b d) (before : State) : s.CommitsOnly (s.conclude before) := by
  refine (conclude_commits_induct (P := fun t => s.CommitsOnly t ∧ t.AwaitsEntry b d) (fun u hu => hu.2.quiet)
    (fun u t ⟨hc, hu⟩ ht => ?_) (fun u ⟨hc, hu⟩ => ?_) ⟨.refl s, h⟩ before).1
  · exact ⟨hc.trans ht.commitsOnly,
      hu.of_commitsOnly ht.commitsOnly (ht.unsaved_of_present hu.unsaved hu.device hu.present)⟩
  · exact ⟨hc.trans (u.raise_commitsOnly _), hu.of_commitsOnly (u.raise_commitsOnly _) hu.unsaved⟩

/-- A write that is applied completes its access, or leaves it waiting for the entry where it is a WRITE_THROUGH write (R51,
R78). -/
theorem finishWrite_access {a : Access} {w : Wait} (ha : s.port.access = some a) (hw : a.status = .pending w) (b : Fin 16)
    (address : HostAddress) (e : Decode) (x : Byte) : (s.finishWrite b address e x).port.access = some
      { a with status := if e.policy = .writeThrough then .pending (.entry b) else .done .completed } := by
  have port : ((s.completeWatches address x b).streamWritten e.device e.address).port = s.port := by simp
  unfold finishWrite
  dsimp only
  split
  · have access : (((s.completeWatches address x b).streamWritten e.device e.address).givePush b).port.access = some a := by
      simpa using ha
    rw [waitOn_of_access access]
    rfl
  · rw [complete_of_pending (by rw [port, ha]) hw]

theorem hasEntry_finishWrite (s : State) (b : Fin 16) (address : HostAddress) (e : Decode) (x : Byte) (c : Fin 16) :
    Queue.hasEntry (s.finishWrite b address e x).queue c = Queue.hasEntry s.queue c := by
  rw [← s.hasEntry_completeWatches address x b]
  unfold finishWrite
  dsimp only
  split <;> simp [Queue.hasEntry_givePush]

/-- The record of a CLEAN buffer after a write in it is applied. -/
theorem appliedWrite_buffer (hb : s.buffers[b].state = .clean) (address : HostAddress) (e : Decode) (x : Byte) :
    ((s.placeByte b e x).finishWrite b address e x).buffers[b] =
      s.buffers[b].dirtied e.offset x e.region (s.ageDeadlineFor e.region) := by
  have same : ((s.placeByte b e x).finishWrite b address e x).buffers = (s.placeByte b e x).buffers := by simp
  rw [same, placeByte_buffer, if_pos hb]

/-- A write placed in the CLEAN buffer of a device that is not ABSENT: what follows in the step are consequences on commits. -/
theorem appliedWrite_conclude {a : Access} {w : Wait} {e : Decode} (hdone : s.startup.phase = .done)
    (ha : s.port.access = some a) (hw : a.status = .pending w) (hb : s.buffers[b].state = .clean)
    (hd : s.deviceOfBuffer b = some d) (hp : s.devices[d].state ≠ .absent) (x : Byte) (before : State) :
    ((s.placeByte b e x).finishWrite b a.address e x).CommitsOnly
      (((s.placeByte b e x).finishWrite b a.address e x).conclude before) := by
  have access := finishWrite_access (s := s.placeByte b e x) (by simpa using ha) hw b a.address e x
  have record := appliedWrite_buffer hb a.address e x
  have entry : Queue.hasEntry ((s.placeByte b e x).finishWrite b a.address e x).queue b = true := by
    rw [hasEntry_finishWrite, placeByte_queue, if_pos hb, Queue.hasEntry_append_self]
  have done : ((s.placeByte b e x).finishWrite b a.address e x).startup.phase = .done := by simpa using hdone
  have devices : ((s.placeByte b e x).finishWrite b a.address e x).devices = s.devices := by simp
  generalize (s.placeByte b e x).finishWrite b a.address e x = t at access record entry done devices ⊢
  by_cases hpolicy : e.policy = .writeThrough
  · rw [if_pos hpolicy] at access
    have awaits : t.AwaitsEntry b d :=
      { done := done
        waits := waiting_of_pending access rfl
        entry := entry
        unsaved := .inl (by rw [record]; rfl)
        device := (deviceOfBuffer_congr (by rw [record]; rfl)).trans hd
        present := by rw [devices]; exact hp }
    exact awaits.conclude before
  · rw [if_neg hpolicy] at access
    exact AtRest.conclude ⟨done, .inl (waiting_of_done access rfl)⟩ before

/-- In service `b` is COMMITTING on the device `d`, which is READY. -/
structure OnReady (b : Fin 16) (d : Fin 4) (s : State) : Prop where
  done : s.startup.phase = .done
  committing : s.buffers[b].state = .committing
  device : s.deviceOfBuffer b = some d
  ready : s.devices[d].state = .ready

/-- Where nothing was rewritten, the access that waits on the removal of the entry is answered. -/
theorem OnReady.answers (h : s.OnReady b d) (hclean : s.buffers[b].dirty = 0) (before : State) :
    s.entryWaiterAnswered ((s.endWell b).conclude before) b := by
  obtain ⟨record, gone⟩ := endWell_cleaned hclean
  have port : (s.endWell b).port = s.port := by simp
  have done : (s.endWell b).startup.phase = .done := by simpa using h.done
  refine ⟨fun a ha hw => ?_, fun a e x ha hw hdir he hx hfind => ?_⟩
  · have access : (s.endWell b).port.access = some a := by rw [port, ha]
    have next : (s.endWell b).settleAccess = some ((s.endWell b).complete 0) := by
      simp only [settleAccess, waiting_of_pending access hw, settleWriteThrough, gone]
      rfl
    rw [conclude_of_consequence (consequence_of_access next),
      (conclude_samePortMoreFlags (complete_waiting _ 0) before).1, complete_of_pending access hw]
  · have access : (s.endWell b).port.access = some a := by rw [port, ha]
    have resident : (s.endWell b).findBuffer e.device (e.address / 64) = some b := by
      rw [findBuffer_congr (s := s) fun c => ?_, hfind]
      by_cases hc : c = b
      · subst hc
        rw [record, h.committing]
        exact ⟨iff_of_false nofun nofun, rfl⟩
      · rw [s.endWell_sameBuffersBut b c hc]
        exact ⟨.rfl, rfl⟩
    have next : (s.endWell b).settleAccess = some (((s.endWell b).placeByte b e x).finishWrite b a.address e x) := by
      simp only [settleAccess, waiting_of_pending access hw, settleHeldWrite, gone, resolveAgain, access, he, hdir, hx,
        resolveWrite, resident]
      rfl
    have device : (s.endWell b).deviceOfBuffer b = some d := (deviceOfBuffer_congr (by rw [record]; rfl)).trans h.device
    have present : (s.endWell b).devices[d].state ≠ .absent := by
      have devices : (s.endWell b).devices = s.devices := by simp
      rw [devices, h.ready]
      exact nofun
    have clean : (s.endWell b).buffers[b].state = .clean := by rw [record]; rfl
    have commits := appliedWrite_conclude (e := e) done access hw clean device present x before
    have written := appliedWrite_buffer clean a.address e x
    have keeps := commits.buffers b
    rw [conclude_of_consequence (consequence_of_access next)]
    refine ⟨?_, ?_, ?_, ?_⟩
    · rw [commits.port]
      exact finishWrite_access (by simpa using access) hw b a.address e x
    · rw [keeps.data, written]
      exact (PageBuffer.write_spec _ e.offset x).1
    · rw [Queue.hasEntry_congr commits.queue, hasEntry_finishWrite, placeByte_queue, if_pos clean, Queue.hasEntry_append_self]
    · rw [keeps.region, written]
      rfl

/-! ### The entry that is kept (R67, R70, R71, R73, R99) -/

/-- An entry with an own cause is wanted. -/
theorem wanted_of_ownCause (h : Queue.pushed s.queue b = true ∨ Queue.aged s.queue b = true) : s.wanted b = true := by
  obtain ⟨entry, cause⟩ := Queue.ownCause_fromEntry h
  simp only [wanted, causeIn, entry, cause, Bool.or_true, Bool.true_or, Bool.true_and]

/-- In a settled state the front generation holds no eligible entry (R73). -/
theorem settled.not_eligible (h : s.settled) (hm : Queue.markerBefore s.queue b = false) : s.eligible b = false := by
  by_contra he
  have eligible := Bool.eq_true_of_not_eq_false he
  obtain ⟨-, -, wanted, -⟩ := startable_iff.mp eligible
  obtain ⟨entry, -⟩ := Bool.and_eq_true_iff.mp wanted
  obtain ⟨-, -, -, queue, -⟩ := settled_iff.mp h
  have untaken := settleQueue_eq_none_iff.mp queue b (Queue.mem_frontBuffers entry hm)
  rw [eligible] at untaken
  cases untaken

/-- With no access waiting, what a step's end leaves of a buffer with an entry on a present device: it is DIRTY or COMMITTING
still, and no other buffer has become either of these. -/
theorem conclude_unsaved (hw : s.waiting = none) (hdone : s.startup.phase = .done) (hb : s.Unsaved b)
    (hd : s.deviceOfBuffer b = some d) (hp : s.devices[d].state ≠ .absent) (before : State) :
    s.CommitsOnly (s.conclude before) ∧ (s.conclude before).Unsaved b ∧ ∀ c, (s.conclude before).Unsaved c → s.Unsaved c := by
  refine conclude_commits_induct (P := fun t => s.CommitsOnly t ∧ t.Unsaved b ∧ ∀ c, t.Unsaved c → s.Unsaved c)
    (fun u ⟨hc, _⟩ => ?_) (fun u t ⟨hc, hu, others⟩ ht => ?_)
    (fun u ⟨hc, hu, others⟩ => ⟨hc.trans (u.raise_commitsOnly _), hu, others⟩) ⟨.refl s, hb, fun _ => id⟩ before
  · exact quiet_of_idle ((waiting_congr hc.port).trans hw) (by rw [hc.startup, hdone])
  · have device : u.deviceOfBuffer b = some d := (deviceOfBuffer_congr (hc.buffers b).tag).trans hd
    have present : u.devices[d].state ≠ .absent := by
      rw [hc.devices]
      exact hp
    exact ⟨hc.trans ht.commitsOnly, ht.unsaved_of_present hu device present, fun c h => others c (ht.unsaved h)⟩

/-- Where bytes were rewritten and no access waits, the entry is kept, and the new commit starts as soon as it may. -/
theorem OnReady.keepsRewritten (h : s.OnReady b d) (hdirty : s.buffers[b].dirty ≠ 0) (hw : s.waiting = none)
    (before : State) : s.keepsRewrittenEntry ((s.endWell b).conclude before) b := by
  have record : (s.endWell b).buffers[b] =
      { s.buffers[b] with state := .dirty, inFlight := 0, stage := none, sent := none } := by
    rw [endWell_of_rewritten hdirty, buffers_setBuffer_self]
  have queue : (s.endWell b).queue = s.queue := by
    rw [endWell_of_rewritten hdirty]
    simp
  have others := s.endWell_sameBuffersBut b
  have idle : (s.endWell b).waiting = none := (waiting_congr (by simp)).trans hw
  have done : (s.endWell b).startup.phase = .done := by simpa using h.done
  have device : (s.endWell b).deviceOfBuffer b = some d := (deviceOfBuffer_congr (by rw [record])).trans h.device
  have ready : (s.endWell b).devices[d].state = .ready := by
    have devices : (s.endWell b).devices = s.devices := by simp
    rw [devices, h.ready]
  have part : (s.endWell b).part = s.part := by simp
  have settled := (s.endWell b).conclude_settled before
  obtain ⟨commits, unsaved, fewer⟩ :=
    conclude_unsaved idle done (.inl (by rw [record])) device (by rw [ready]; exact nofun) before
  generalize s.endWell b = v at record queue others device ready part settled commits unsaved fewer ⊢
  generalize v.conclude before = t at settled commits unsaved fewer ⊢
  have unmarked : Queue.unmark t.queue = Queue.unmark s.queue := by rw [commits.queue, queue]
  have keeps := commits.buffers b
  refine ⟨unmarked, by rw [keeps.region, record], by rw [keeps.age, record], by rw [keeps.attempts, record],
    by rw [keeps.tag, record], by rw [keeps.data, record], by rw [keeps.valid, record], ?_, unsaved, fun cause => ?_⟩
  · rw [keeps.bytes, record]
    exact BitVec.or_zero
  have wanted : t.wanted b = true := by
    rw [← Queue.pushed_congr unmarked, ← Queue.aged_congr unmarked] at cause
    exact wanted_of_ownCause cause
  refine ⟨wanted, fun running front alone => unsaved.resolve_left fun dirty => ?_⟩
  have head : Queue.markerBefore t.queue b = false := (Queue.markerBefore_congr unmarked b).trans front
  have single : t.deviceCommitting d = false := by
    refine List.any_eq_false.mpr fun c _ hc => ?_
    obtain ⟨hc, hdevice⟩ := Bool.and_eq_true_iff.mp hc
    have committing := of_decide_eq_true hc
    have onDevice := of_decide_eq_true hdevice
    by_cases hcb : c = b
    · rw [hcb, dirty] at committing
      cases committing
    · have before := fewer c (.inr committing)
      rw [Unsaved, others c hcb] at before
      have tag : t.buffers[c].tag = s.buffers[c].tag := by rw [(commits.buffers c).tag, others c hcb]
      obtain ⟨clean, idle⟩ := alone c hcb (((deviceOfBuffer_congr tag).symm.trans onDevice).trans h.device.symm)
      exact before.elim clean idle
  have eligible : t.eligible b = true := by
    refine startable_iff.mpr ⟨d, (deviceOfBuffer_congr keeps.tag).trans device, wanted, dirty, head, ?_, single, ?_⟩
    · rw [commits.devices, ready]
    · rw [budgetSpent, commits.part, part, running]
      rfl
  rw [settled.not_eligible head] at eligible
  cases eligible

/-! ### A CHECK read (R97, R98) -/

/-- A difference is counted: the third makes the buffer FAILED, and before it the start choice is made again. -/
theorem checkFailed_of_ready (hd : s.deviceOfBuffer b = some d) (hr : s.devices[d].state = .ready) :
    s.checkFailed b = if s.buffers[b].attempts + 1 ≥ 3 then (s.setBuffer b s.buffers[b].counted).becomeFailed b
      else (s.setBuffer b s.buffers[b].counted).startChoice b := by
  have device : (s.setBuffer b s.buffers[b].counted).deviceOfBuffer b = some d :=
    (deviceOfBuffer_congr (by rw [buffers_setBuffer_self]; rfl)).trans hd
  have reachable : (s.setBuffer b s.buffers[b].counted).unreachable d = false := by
    have state : (s.setBuffer b s.buffers[b].counted).devices[d].state = .ready := hr
    rw [unreachable, state]
    rfl
  change (if s.buffers[b].attempts + 1 ≥ 3 then (s.setBuffer b s.buffers[b].counted).becomeFailed b
    else match (s.setBuffer b s.buffers[b].counted).deviceOfBuffer b with
      | none => s.setBuffer b s.buffers[b].counted
      | some d => if (s.setBuffer b s.buffers[b].counted).unreachable d
          then (s.setBuffer b s.buffers[b].counted).endDirty b
          else (s.setBuffer b s.buffers[b].counted).startChoice b) = _
  rw [device]
  dsimp only
  rw [reachable, if_neg Bool.false_ne_true]

theorem OnReady.checkFailed_commitsOnly (h : s.OnReady b d) :
    (s.setBuffer b s.buffers[b].counted).CommitsOnly (s.checkFailed b) := by
  have committing : (s.setBuffer b s.buffers[b].counted).buffers[b].state = .committing := by
    rw [buffers_setBuffer_self]
    exact h.committing
  rw [checkFailed_of_ready h.device h.ready]
  split
  · exact becomeFailed_commitsOnly (hasEntry_of_committing committing)
  · exact startChoice_commitsOnly committing

/-- The third difference leaves the buffer FAILED, its in-flight bytes dirty again (R98, R100). -/
theorem OnReady.checkFailed_third (h : s.OnReady b d) (h2 : s.buffers[b].attempts = 2) :
    (s.checkFailed b).buffers[b].state = .failed ∧ (s.checkFailed b).flagSet .commitFail = true ∧
      (s.checkFailed b).buffers[b].dirty = s.buffers[b].dirty ||| s.buffers[b].inFlight := by
  have failed : s.checkFailed b = (s.setBuffer b s.buffers[b].counted).becomeFailed b := by
    rw [checkFailed_of_ready h.device h.ready, h2]
    exact if_pos (Nat.le_refl 3)
  rw [failed, becomeFailed_buffer, buffers_setBuffer_self]
  exact ⟨rfl, flagSet_raise _ _, BitVec.or_zero⟩

/-- With no access waiting, what a difference makes of the commit at the end of the step. -/
theorem OnReady.checkFailed_conclude (h : s.OnReady b d) (hw : s.waiting = none) (before : State) :
    ((s.checkFailed b).conclude before).buffers[b].attempts = s.buffers[b].attempts + 1 ∧
    Queue.unmark ((s.checkFailed b).conclude before).queue = Queue.unmark s.queue ∧
    (s.buffers[b].attempts = 2 → ((s.checkFailed b).conclude before).buffers[b].state = .failed ∧
      ((s.checkFailed b).conclude before).flagSet .commitFail = true ∧
      ((s.checkFailed b).conclude before).buffers[b].dirty = s.buffers[b].dirty ||| s.buffers[b].inFlight) := by
  have counted : (s.setBuffer b s.buffers[b].counted).buffers[b] = s.buffers[b].counted := buffers_setBuffer_self ..
  have failed := h.checkFailed_commitsOnly
  have idle : (s.checkFailed b).waiting = none := (waiting_congr failed.port).trans hw
  have done : (s.checkFailed b).startup.phase = .done := by
    rw [failed.startup]
    exact h.done
  have ended := AtRest.conclude ⟨done, .inl idle⟩ before
  have commits := failed.trans ended
  refine ⟨?_, commits.queue, fun h2 => ?_⟩
  · rw [(commits.buffers b).attempts, counted]
    rfl
  · obtain ⟨state, flag, dirty⟩ := h.checkFailed_third h2
    have record := conclude_unchanged (b := b) idle done (by rw [state]; exact nofun) (by rw [engineWaits, state]; rfl) before
    rw [record]
    exact ⟨state, ended.flags _ flag, dirty⟩

theorem exec_checkReadComplete {l : LinkOperation} {data : PageBytes} (hr : s.resetHeld = false)
    (h : s.runs l (.checkRead b)) (hs : s.inStage b .check = true) : exec (.checkReadComplete data) s =
      .next ((if s.buffers[b].agrees (l.operation.start % 64) data then (s.readCompleted l).endWell b
        else (s.readCompleted l).checkFailed b).conclude s) := by
  obtain ⟨hl, hk⟩ := h
  obtain ⟨-, -, buffers, -⟩ := s.readCompleted_frame l
  have stage : (s.readCompleted l).inStage b .check = true := by
    rw [inStage, buffers]
    exact hs
  simp only [exec, execCheckReadComplete, act_of_released hr, hl, hk, stage, if_true]
  rw [buffers]

/-- A read that has ended moves a counter, and changes no device's state (R116). -/
theorem readCompleted_state (s : State) (l : LinkOperation) (e : Fin 4) :
    (s.readCompleted l).devices[e].state = s.devices[e].state := by
  have devices : (s.freeLink l).devices = s.devices := by simp
  unfold readCompleted moveCounter
  dsimp only
  split
  all_goals
    rw [devices_setDevice, devices]
    split
    · next he =>
      subst he
      rfl
    · rfl

theorem readCompleted_onReady {l : LinkOperation} (hdone : s.startup.phase = .done) (hc : s.buffers[b].state = .committing)
    (hd : s.deviceOfBuffer b = some d) (hr : s.devices[d].state = .ready) : (s.readCompleted l).OnReady b d := by
  obtain ⟨-, -, buffers, startup, -⟩ := s.readCompleted_frame l
  refine ⟨by rw [startup, hdone], by rw [buffers, hc], ?_, by rw [readCompleted_state, hr]⟩
  rw [deviceOfBuffer, buffers]
  exact hd

/-! ### Claims about a state that is read only in some fields -/

theorem entryWaiterAnswered_congr (hport : u.port = s.port) (hbuffers : u.buffers = s.buffers)
    (h : u.entryWaiterAnswered t b) : s.entryWaiterAnswered t b := by
  have find (e : Fin 4) (page : Nat) : u.findBuffer e page = s.findBuffer e page := by rw [findBuffer, hbuffers, findBuffer]
  obtain ⟨removed, held⟩ := h
  rw [hport] at removed held
  exact ⟨removed, fun a e x ha hw hdir he hx hf => held a e x ha hw hdir he hx (by rw [find, hf])⟩

theorem keepsRewrittenEntry_congr (hqueue : u.queue = s.queue) (hbuffers : u.buffers = s.buffers) (hpart : u.part = s.part)
    (h : u.keepsRewrittenEntry t b) : s.keepsRewrittenEntry t b := by
  unfold keepsRewrittenEntry deviceOfBuffer at h ⊢
  rw [hqueue, hbuffers, hpart] at h
  exact h

end State

/-- Settles O30: the completed read leaves the commit on a READY device, where agreement ends it well and a difference is
counted; the access in progress waits for nothing, or for the removal of the entry. -/
theorem checkReadDecidesTheCommit : Obligations.CheckReadDecidesTheCommit := by
  intro data l b s ⟨hr, hdone⟩ hcoherent h hs hready hd
  obtain ⟨committing, -⟩ := State.inStage_iff.mp hs
  have onReady := State.readCompleted_onReady (l := l) hdone committing hd hready
  obtain ⟨link, port, buffers, startup, -⟩ := s.readCompleted_frame l
  have queue : (s.readCompleted l).queue = s.queue := by simp [State.readCompleted, State.freeLink]
  have part : (s.readCompleted l).part = s.part := by simp [State.readCompleted, State.freeLink]
  have idle (hw : s.waiting = none) : (s.readCompleted l).waiting = none := (State.waiting_congr port).trans hw
  refine ⟨_, State.exec_checkReadComplete hr h hs, ?_, fun hw agree hclean => ?_, fun agree hclean => ?_,
    fun hw agree hdirty => ?_, fun hw differ => ?_⟩
  · generalize hv : (if s.buffers[b].agrees (l.operation.start % 64) data then (s.readCompleted l).endWell b
      else (s.readCompleted l).checkFailed b) = v
    have kept : v.link = none ∧ v.startup = s.startup := by
      subst hv
      split <;> simp [link, startup]
    obtain ⟨unlinked, phase⟩ := kept
    have alone : v.LeavesAlone .commits true (v.conclude s) := State.conclude_leavesAlone (by rw [phase, hdone]) s
    obtain ⟨-, same⟩ := alone.link (.inr (.inl rfl))
    rw [unlinked] at same
    exact Option.map_eq_none_iff.mp same
  · obtain ⟨record, gone⟩ :=
      State.endWell_conclude_clean (b := b) (by rw [buffers, hclean]) (idle hw) onReady.done s
    rw [if_pos agree, record, buffers]
    exact ⟨rfl, rfl, rfl, gone⟩
  · rw [if_pos agree]
    exact State.entryWaiterAnswered_congr port buffers (onReady.answers (by rw [buffers, hclean]) s)
  · rw [if_pos agree]
    exact State.keepsRewrittenEntry_congr queue buffers part (onReady.keepsRewritten (by rwa [buffers]) (idle hw) s)
  · have counted := onReady.checkFailed_conclude (idle hw) s
    rw [buffers, queue] at counted
    obtain ⟨attempts, unmarked, third⟩ := counted
    have entry : Queue.hasEntry s.queue b = true := by
      rw [hcoherent.hasEntry, committing]
      rfl
    rw [if_neg (by rw [differ]; exact Bool.false_ne_true)]
    exact ⟨attempts, (Queue.hasEntry_congr unmarked b).trans entry, third⟩

end Sys2Proof.Machine
end

section
/-! PROOFS. The poll acknowledge that ends BUSY (R53, R79, R95): O28, refuted. An access is resolved again only with what it
carries, and the statement leaves room for a write that waits for a buffer and carries no byte. -/
namespace Sys2Proof.Machine

theorem State.exec_pollAcknowledge {s : State} {l : LinkOperation} (hr : s.resetHeld = false) (h : s.runs l .poll) :
    exec .pollAcknowledge s = .next (((s.freeLink l).pollAcknowledged l.operation.device).conclude s) := by
  obtain ⟨hl, hk⟩ := h
  simp only [exec, execPollAcknowledge, act_of_released hr, hl, hk]

/-- A write at host address 0 that waits for a buffer, with no write byte. -/
def bytelessWrite : Access :=
  { direction := .write, address := 0, writeByte := none
    decode := some { region := 0, device := 0, address := 0, policy := .writeBack, wait := 0 }
    edgeTime := 0, waitDeadline := 3, holdDeadline := some 1600000, status := .pending .buffer }

/-- A FAILED buffer of device 2, its one byte not written. -/
def failedPage (b : Fin 16) : PageBuffer :=
  { PageBuffer.freed with
    state := .failed, tag := some ⟨2, b⟩, valid := 1, dirty := 1, commitRegion := some 0, attempts := 3 }

/-- The one buffer in BUSY, on device 2: its byte in flight, verify off, nothing rewritten. -/
def busyPage : PageBuffer :=
  { failedPage 0 with
    state := .committing, dirty := 0, inFlight := 1, attempts := 0, stage := some .busy, sent := some ⟨0, 1, false⟩ }

/-- The poll of device 2 on the link. -/
def pollOfTwo : LinkOperation :=
  { operation := ⟨.poll, 2, 0, 0⟩, form := .selectOnly, attempts := 1, selectErrors := 0, attemptStart := 0
    hasRequester := true, counterLost := false }

/-- A pool with no evictable buffer: buffer 0 in BUSY, the others FAILED; the write waits, and device 2 is polled. -/
def busyFullPool : State :=
  { State.reset with
    part := .running
    startup := { phase := .done, store := none, outcome := some .good }
    port := { State.reset.port with access := some bytelessWrite }
    devices := (Vector.replicate 4 { Device.afterReset with state := .ready }).set 2
      { Device.afterReset with state := .programming, pollDue := some 4000, timeout := some 160000 }
    buffers := Vector.ofFn fun b => if b = 0 then busyPage else failedPage b
    recency := List.finRange 16
    queue := (List.finRange 16).map fun b => .buffer b false false
    link := some pollOfTwo }

theorem busyFullPool_inService : busyFullPool.inService := by decide

theorem busyFullPool_coherent : busyFullPool.coherent := by decide

theorem busyFullPool_committingIn : busyFullPool.committingIn 2 .busy = some 0 := by decide

theorem busyFullPool_victim : busyFullPool.victim = none := by decide

theorem busyFullPool_findBuffer : busyFullPool.findBuffer 0 (0 / 64) = none := by decide

/-- The state after the acknowledge. -/
def busyFullPoolAcknowledged : State := ((busyFullPool.freeLink pollOfTwo).pollAcknowledged 2).conclude busyFullPool

theorem exec_pollAcknowledge_busyFullPool : exec .pollAcknowledge busyFullPool = .next busyFullPoolAcknowledged := by
  obtain ⟨released, -⟩ := busyFullPool_inService
  exact State.exec_pollAcknowledge released ⟨rfl, rfl⟩

/-- Buffer 0 is CLEAN and evictable, and stands for its page of device 2 still: the write is not resolved again. -/
theorem busyFullPoolAcknowledged_buffer : busyFullPoolAcknowledged.buffers[(0 : Fin 16)].state = .clean ∧
    busyFullPoolAcknowledged.buffers[(0 : Fin 16)].tag = some ⟨2, 0⟩ := by decide

/-- Refutes O28: it claims of every access waiting for a buffer that it takes the freed one. A write with no write byte is never
resolved again (`State.resolveAgain`), and buffer 0 keeps its tag. No active edge makes such an access: the statement would have
to ask that a write carries its byte. -/
theorem not_pollAcknowledgeEndsBusy : ¬ Obligations.PollAcknowledgeEndsBusy := by
  intro h
  obtain ⟨t, ht, -, -, -, taken, -⟩ := h pollOfTwo 0 ⟨0, 1, false⟩ ⟨2, 0⟩ busyFullPool busyFullPool_inService ⟨rfl, rfl⟩ rfl
    busyFullPool_committingIn rfl rfl
  obtain rfl : busyFullPoolAcknowledged = t := Host.Outcome.next.inj (exec_pollAcknowledge_busyFullPool.symm.trans ht)
  obtain ⟨tag, -⟩ := taken (.inl rfl) rfl rfl busyFullPool_coherent busyFullPool_victim bytelessWrite _ rfl rfl rfl
    busyFullPool_findBuffer nofun
  obtain ⟨-, kept⟩ := busyFullPoolAcknowledged_buffer
  rw [kept] at tag
  cases tag

end Sys2Proof.Machine
end

section
/-! PROOFS. The device records: what each operation writes into one, and that every step keeps the deadlines and the counter of
each device state (R120, R121, R122, R126): O58. -/
namespace Sys2Proof.Machine

/-! ### One device record -/

namespace Device

variable {x : Device}

theorem good_counterless (h : x.good = true) : { x with counter := none }.good = true := by
  unfold good at h ⊢
  cases hx : x.state <;> simp_all

theorem good_moveCounter (h : x.good = true) (address : Nat) : (x.moveCounter address).good = true := by
  unfold good moveCounter at *
  cases hx : x.state <;> simp_all

/-- A capacity is no field of which a device state says anything. -/
theorem good_capacity (h : x.good = true) (c : Capacity) : { x with capacity := c }.good = true := h

theorem good_install (h : x.good = true) (c : Capacity) : (x.install c).good = true := by
  unfold install
  split
  · exact good_capacity h c
  · exact good_capacity (good_counterless h) c

theorem good_withCapacity (h : x.good = true) (c : Capacity) : (x.withCapacity c).good = true := by
  unfold withCapacity
  split
  · exact h
  · exact good_capacity (good_counterless h) c

theorem good_ready (counter : Option Nat) (probe : Option Probe) :
    { x with state := .ready, counter := counter, pollDue := none, timeout := none, probe := probe }.good = true := rfl

/-- A device that becomes READY keeps no poll due; a STUCK one had no timeout (R122). -/
theorem good_unstuck (h : x.good = true) (hx : x.state = .stuck) :
    { x with state := .ready, counter := none, pollDue := none }.good = true := by
  simp only [good, hx, decide_eq_true_eq] at h ⊢
  exact ⟨trivial, h.2⟩

theorem good_absent :
    { x with state := .absent, counter := none, pollDue := none, timeout := none, probe := none }.good = true := rfl

theorem good_stuck (due : Time) :
    { x with state := .stuck, counter := none, timeout := none, pollDue := some due }.good = true := rfl

theorem good_programming (due deadline : Time) :
    { x with state := .programming, pollDue := some due, timeout := some deadline }.good = true := rfl

/-- A refused poll of a PROGRAMMING device sets its next due time (R120). -/
theorem good_pollAgain (h : x.good = true) (hx : x.state = .programming) (due : Time) :
    { x with pollDue := some due }.good = true := by
  simp only [good, hx, decide_eq_true_eq] at h ⊢
  exact ⟨nofun, h.2⟩

/-- A refused poll of a STUCK device sets its next due time, unless a probe is in progress (R122, R129). -/
theorem good_pollSetAside (h : x.good = true) (hx : x.state = .stuck) (due : Time) :
    { x with pollDue := if x.probe.isSome then none else some due }.good = true := by
  simp only [good, hx, decide_eq_true_eq] at h ⊢
  refine ⟨?_, h.2⟩
  split
  · rename_i hp
    exact .inr (Option.isSome_iff_ne_none.mp hp)
  · exact .inl nofun

/-- A probe starts with the counter UNKNOWN and the polls of a STUCK device set aside (R129). -/
theorem good_probed (h : x.good = true) (p : Probe) :
    { x with
      probe := some p, counter := none
      pollDue := if x.state = DeviceState.stuck then none else x.pollDue }.good = true := by
  unfold good at h ⊢
  cases hx : x.state <;> simp_all

/-- The next select of a probe in progress is set (R129). -/
theorem good_selectAgain (h : x.good = true) (p : Probe) : { x with probe := some p }.good = true := by
  unfold good at h ⊢
  cases hx : x.state <;> simp_all

end Device

/-! ### The records of the state -/

/-- A device that a failed probe makes ABSENT keeps nothing but its capacity (R128); no other record is written. -/
theorem State.deviceAbsent_devices (s : State) (d : Fin 4) : (s.deviceAbsent d).devices = s.devices.set d
    { s.devices[d] with state := .absent, counter := none, pollDue := none, timeout := none, probe := none } := by
  have folded {f : State → Fin 16 → State} (hf : ∀ (u : State) (b : Fin 16), (f u b).devices = u.devices) (u : State) :
      ((List.finRange 16).foldl f u).devices = u.devices :=
    foldl_invariant (P := fun t : State => t.devices = u.devices) rfl fun a b ha => (hf a b).trans ha
  have raised : (if s.devices[d].state = .absent then s else s.raise .deviceFault).devices = s.devices := by
    split <;> rfl
  unfold State.deviceAbsent
  dsimp only
  rw [folded (fun u b => by simp), folded (fun u b => by simp)]
  simp only [endOperations_frame, setDevice_devices, withdraw_devices, raised]

theorem State.resolveAgain_devices {s t : State} (h : s.resolveAgain = some t) : t.devices = s.devices := by
  unfold State.resolveAgain at h
  repeat' split at h
  all_goals cases h
  all_goals simp

theorem State.applyRegion_devices (s : State) (n : Fin 8) (x : Shadow) : (s.applyRegion n x).devices = s.devices := by
  unfold State.applyRegion
  split <;> rfl

theorem State.applyWatch_devices (s : State) (n : Fin 8) (x : Shadow) : (s.applyWatch n x).devices = s.devices := by
  unfold State.applyWatch
  split <;> rfl

theorem State.retryCommand_devices (s : State) : s.retryCommand.devices = s.devices := by
  unfold State.retryCommand
  split <;> rfl

theorem State.discardCommand_devices (s : State) : s.discardCommand.devices = s.devices := by
  unfold State.discardCommand
  split
  · dsimp only
    rw [State.commanded_devices]
    split <;> simp
  · rfl

namespace State.devicesGood

variable {s t : State}

theorem of_devices (hs : s.devicesGood) (h : t.devices = s.devices) : t.devicesGood := by
  unfold State.devicesGood
  rw [h]
  exact hs

theorem setDevice (hs : s.devicesGood) {x : Device} (hx : x.good = true) (d : Fin 4) :
    (s.setDevice d x).devicesGood := fun e => by
  rw [devices_setDevice]
  split
  · exact hx
  · exact hs e

theorem counterMoved (hs : s.devicesGood) (l : LinkOperation) (address : Nat) :
    ((s.freeLink l).moveCounter l address).devicesGood := by
  have free : (s.freeLink l).devicesGood := hs.of_devices (by simp)
  unfold State.moveCounter
  dsimp only
  split
  · exact free.setDevice (Device.good_counterless (free _)) _
  · exact free.setDevice (Device.good_moveCounter (free _) _) _

theorem enterBusy (hs : s.devicesGood) (b : Fin 16) (d : Fin 4) : (s.enterBusy b d).devicesGood :=
  .of_devices (.setDevice (s := s.setBuffer b { s.buffers[b] with stage := some .busy }) hs
    (Device.good_programming (x := s.devices[d]) (s.now + Config.pollInterval)
      (s.now + s.settings.programTimeout * Config.millisecond)) d) (by simp [State.enterBusy])

theorem deviceStuck (hs : s.devicesGood) (d : Fin 4) : (s.deviceStuck d).devicesGood :=
  .of_devices (hs.setDevice (Device.good_stuck (x := s.devices[d]) (s.now + Config.stuckPollInterval)) d)
    (by simp [State.deviceStuck])

theorem lastAttemptFailed (hs : s.devicesGood) (l : LinkOperation) (n : Nat) : (s.lastAttemptFailed l n).devicesGood := by
  have free : ({ s with link := none } : State).devicesGood := hs
  unfold State.lastAttemptFailed
  dsimp only
  split
  · split
    · exact free.of_devices (by simp)
    · exact (free.deviceStuck l.operation.device).of_devices (by simp)
  · exact free.of_devices (by simp)

theorem transferBroken (hs : s.devicesGood) (l : LinkOperation) (i : Nat) : (s.transferBroken l i).devicesGood := by
  have unknown (now : Time) (d : Fin 4) : ((s.advanceTo now).setDevice d
      { (s.advanceTo now).devices[d] with counter := none }).devicesGood :=
    .setDevice (s := s.advanceTo now) hs (Device.good_counterless (hs d)) d
  unfold State.transferBroken
  dsimp only
  split
  · exact (unknown _ _).of_devices rfl
  · exact (unknown _ _).lastAttemptFailed l _

theorem pollAcknowledged (hs : s.devicesGood) (d : Fin 4) : (s.pollAcknowledged d).devicesGood := by
  unfold State.pollAcknowledged
  split
  · have ready := hs.setDevice (Device.good_ready (x := s.devices[d]) s.devices[d].counter s.devices[d].probe) d
    dsimp only
    split
    · exact ready.of_devices (by simp)
    · exact ready
  · rename_i hx
    exact hs.setDevice (Device.good_unstuck (hs d) hx) d
  · exact hs
  · exact hs

theorem pollRefused (hs : s.devicesGood) (d : Fin 4) : (s.pollRefused d).devicesGood := by
  unfold State.pollRefused
  split
  · rename_i hx
    exact hs.setDevice (Device.good_pollAgain (hs d) hx _) d
  · rename_i hx
    exact hs.setDevice (Device.good_pollSetAside (hs d) hx _) d
  · exact hs
  · exact hs

theorem programTimedOut (hs : s.devicesGood) (d : Fin 4) : (s.programTimedOut d).devicesGood := by
  unfold State.programTimedOut
  dsimp only
  refine of_devices (s := s.deviceStuck d) (hs.deviceStuck d) ?_
  split <;> simp

theorem deviceAbsent (hs : s.devicesGood) (d : Fin 4) : (s.deviceAbsent d).devicesGood :=
  .of_devices (hs.setDevice (Device.good_absent (x := s.devices[d])) d) (s.deviceAbsent_devices d)

theorem startProbe (hs : s.devicesGood) (d : Fin 4) (bound : Time) : (s.startProbe d bound).devicesGood :=
  .setDevice (s := s.withdraw .poll d) hs (Device.good_probed (hs d) _) d

theorem probeRefused (hs : s.devicesGood) (d : Fin 4) : (s.probeRefused d).devicesGood := by
  unfold State.probeRefused
  split
  · exact hs
  · split
    · exact hs.deviceAbsent d
    · exact hs.setDevice (Device.good_selectAgain (hs d) _) d

/-! ### HOLDUP, start-up and reset -/

theorem enterHoldup (hs : s.devicesGood) : s.enterHoldup.devicesGood := by
  unfold State.enterHoldup
  exact foldl_invariant (P := State.devicesGood) (hs.of_devices (by simp)) fun u b hu => hu.of_devices (by simp)

/-- The records take their installed capacities (R188); no other part of start-up's end writes one. -/
theorem endStartup (hs : s.devicesGood) : s.endStartup.devicesGood := by
  unfold State.endStartup
  generalize startupDecision s.startup.store = decision
  obtain ⟨outcome, c⟩ := decision
  dsimp only
  have installed : (s.installConfiguration outcome c).devicesGood := fun d => by
    simpa [State.installConfiguration] using Device.good_install (hs d) c.capacities[d]
  have flagged : (if outcome = .defaultsFlagged then (s.installConfiguration outcome c).raise .descriptor
      else s.installConfiguration outcome c).devicesGood := by
    split
    · exact installed
    · exact installed
  generalize (if outcome = .defaultsFlagged then (s.installConfiguration outcome c).raise .descriptor
    else s.installConfiguration outcome c) = u at flagged ⊢
  have running : ({ u with part := .running } : State).devicesGood := flagged
  split
  · exact flagged.enterHoldup
  · split
    · exact running.of_devices (by simp)
    · exact running

theorem endProbePhase (hs : s.devicesGood) : s.endProbePhase.devicesGood := by
  unfold State.endProbePhase
  split
  · exact hs
  · exact hs.endStartup

theorem beginReset (s : State) : s.beginReset.devicesGood := show State.held.devicesGood by decide

theorem endReset (s : State) (style : CycleStyle) (msa below : Bool) : (s.endReset style msa below).devicesGood := by
  unfold State.endReset
  exact foldl_invariant (P := State.devicesGood) (beginReset s) fun u d hu => hu.startProbe d _

/-! ### The consequences of a step -/

theorem drawn (hs : s.devicesGood) (h : Drawn s t) : t.devicesGood := by
  cases h with
  | resolved _ _ ht => exact hs.of_devices (resolveAgain_devices ht)
  | probed _ _ => exact hs.endProbePhase
  | startedUp _ _ => exact hs.endStartup
  | _ => exact hs.of_devices (by simp)

theorem conclude (hs : s.devicesGood) (before : State) : (s.conclude before).devicesGood :=
  of_devices (settle_induct (P := State.devicesGood) (fun _ _ hu hd => hu.drawn hd) hs) (noteShort_devices _ _)

/-! ### The Management Link -/

theorem applySettings (hs : s.devicesGood) (x : Shadow) : (s.applySettings x).devicesGood := by
  unfold State.applySettings
  split
  · rename_i new capacities _
    have installed : (s.installSettings new capacities).devicesGood := fun d => by
      rw [installSettings_devices]
      exact Device.good_withCapacity (hs d) _
    exact installed.of_devices (by simp)
  · exact hs.of_devices (by simp)

theorem reprobeCommand (hs : s.devicesGood) : s.reprobeCommand.devicesGood := by
  unfold State.reprobeCommand
  split
  · rename_i d _
    exact (hs.startProbe d _).of_devices (commanded_devices _ _)
  · exact hs.of_devices (by simp)

/-- The settings and REPROBE write device records, and no other apply does. -/
theorem applyShadow (hs : s.devicesGood) (x : Shadow) : (s.applyShadow x).devicesGood := by
  have taken : (s.takeCommandBytes x).devicesGood := hs
  have done {u : State} (hu : u.devices = (s.takeCommandBytes x).devices) : (u.commanded .done).devicesGood :=
    taken.of_devices ((commanded_devices u .done).trans hu)
  unfold State.applyShadow
  cases x.kind with
  | settings => exact hs.applySettings x
  | reprobe => exact taken.reprobeCommand
  | region n => exact hs.of_devices (applyRegion_devices s n x)
  | watch n => exact hs.of_devices (applyWatch_devices s n x)
  | retry => exact taken.of_devices (retryCommand_devices _)
  | discard => exact taken.of_devices (discardCommand_devices _)
  | flush => exact done (u := (s.takeCommandBytes x).flushRequest) (by simp)
  | barrier => exact done (u := (s.takeCommandBytes x).barrierRequest) rfl
  | dropClean => exact done (u := (s.takeCommandBytes x).dropClean) (by simp)
  | unknown => exact taken
  | argumentStore => exact taken
  | eventFlagClear => exact hs
  | faultRecordEmpty => exact hs
  | readOnly => exact hs

theorem endTransaction (hs : s.devicesGood) : s.endTransaction.devicesGood := by
  unfold State.endTransaction
  split
  · rename_i x _
    exact (hs.applyShadow x).of_devices (closeTransaction_devices _)
  · exact hs.of_devices (by simp)

/-! ### The rows -/

theorem act {f : State → State} (hs : s.devicesGood) (h : s.act f = .next t) (hf : (f s).devicesGood) : t.devicesGood := by
  unfold State.act at h
  split at h
  · cases h
    exact hs
  · cases h
    exact hf.conclude s

/-- A row whose own effect writes no device record. -/
theorem act_same {f : State → State} (hs : s.devicesGood) (h : s.act f = .next t) (hf : (f s).devices = s.devices) :
    t.devicesGood := hs.act h (hs.of_devices hf)

theorem applyRow {isKind : ApplyKind → Bool} (hs : s.devicesGood) (h : s.applyRow isKind = .next t) : t.devicesGood := by
  refine hs.act h ?_
  split
  · split
    · exact hs.endTransaction
    · exact hs
  · exact hs

end State.devicesGood

theorem exec_hostBus_devicesGood {c : Instr} {s t : State} (hc : commandClass c = .hostBus) (h : exec c s = .next t)
    (hs : s.devicesGood) : t.devicesGood := by
  cases c with
  | hostAccessStart edge ceLow address data =>
    simp only [exec, execHostAccessStart] at h
    have received (u : State) : u.receive.devices = u.devices := by
      unfold State.receive
      split <;> simp
    refine hs.act_same h ?_
    split
    · split
      · exact received _
      · rfl
    · rfl
  | hostAccessEnd edge =>
    simp only [exec, execHostAccessEnd] at h
    refine hs.act_same h ?_
    split
    · rfl
    · split <;> simp
  | waitDeadline =>
    simp only [exec, execWaitDeadline] at h
    refine hs.act_same h ?_
    split <;> rfl
  | holdDeadline =>
    simp only [exec, execHoldDeadline] at h
    refine hs.act_same h ?_
    split <;> simp
  | _ => cases hc

theorem exec_commits_devicesGood {c : Instr} {s t : State} (hc : commandClass c = .commits) (h : exec c s = .next t)
    (hs : s.devicesGood) : t.devicesGood := by
  cases c with
  | commitStart b =>
    simp only [exec, execCommitStart] at h
    refine hs.act_same h ?_
    split <;> simp
  | absentHandover b =>
    simp only [exec, execAbsentHandover] at h
    refine hs.act_same h ?_
    split <;> simp
  | ageDeadline b =>
    simp only [exec, execAgeDeadline] at h
    refine hs.act_same h ?_
    split <;> rfl
  | flushreqFall =>
    simp only [exec, execFlushreqFall] at h
    split at h
    · cases h
      exact hs
    · refine hs.act_same h ?_
      split <;> simp
  | flushreqRise =>
    cases h
    exact hs
  | _ => cases hc

theorem exec_supply_devicesGood {c : Instr} {s t : State} (hc : commandClass c = .supply) (h : exec c s = .next t)
    (hs : s.devicesGood) : t.devicesGood := by
  cases c with
  | supplyBelowWarning =>
    simp only [exec, execSupplyBelowWarning] at h
    refine hs.act_same h ?_
    split <;> rfl
  | supplyAboveWarning =>
    simp only [exec, execSupplyAboveWarning] at h
    refine hs.act_same h ?_
    split <;> rfl
  | supplyAboveRecovery =>
    simp only [exec, execSupplyAboveRecovery] at h
    refine hs.act_same h ?_
    split <;> rfl
  | supplyBelowRecovery =>
    simp only [exec, execSupplyBelowRecovery] at h
    refine hs.act_same h ?_
    split <;> rfl
  | sagTimerExpiry =>
    have low (u : State) (hu : u.devicesGood) : u.supplyLow.devicesGood := by
      have set : (u.setSupply .low none none).devicesGood := hu
      unfold State.supplyLow
      dsimp only
      split
      · exact set.enterHoldup
      · exact set
    simp only [exec, execSagTimerExpiry] at h
    refine hs.act h ?_
    split
    · exact low _ hs
    · exact hs
  | recoveryTimerExpiry =>
    simp only [exec, execRecoveryTimerExpiry] at h
    refine hs.act_same h ?_
    split
    · unfold State.supplyRecovered
      dsimp only
      split <;> rfl
    · rfl
  | _ => cases hc

theorem exec_reset_devicesGood {c : Instr} {s t : State} (hc : commandClass c = .reset) (h : exec c s = .next t)
    (hs : s.devicesGood) : t.devicesGood := by
  cases c with
  | powerOnReset | rstAssert =>
    cases h
    exact .beginReset s
  | resetEnd style msa below =>
    simp only [exec, execResetEnd] at h
    split at h
    · cases h
      exact .endReset s style msa below
    · cases h
      exact hs
  | _ => cases hc

theorem exec_management_devicesGood {c : Instr} {s t : State} (hc : commandClass c = .management)
    (h : exec c s = .next t) (hs : s.devicesGood) : t.devicesGood := by
  cases c with
  | managementAddressByte v =>
    have opened (u : State) : (u.openTransaction v).devices = u.devices := by
      unfold State.openTransaction
      split <;> rfl
    simp only [exec, execManagementAddressByte] at h
    split at h
    · cases h
      exact hs
    · cases h
      exact (hs.endTransaction.conclude s).of_devices (opened _)
  | pointerByte v =>
    simp only [exec, execPointerByte] at h
    exact hs.act_same h (by unfold State.takePointer; split <;> rfl)
  | dataByte v =>
    simp only [exec, execDataByte] at h
    exact hs.act_same h (by unfold State.takeData; split <;> rfl)
  | managementReadByte acknowledged =>
    simp only [exec, execManagementReadByte] at h
    exact hs.act_same h (by unfold State.sendByte; split <;> rfl)
  | managementTransactionEnd =>
    simp only [exec, execManagementTransactionEnd] at h
    exact hs.act h hs.endTransaction
  | regionApply | watchApply | settingsApply | eventFlagClear | faultRecordEmpty | readOnlyApply
  | commandArgumentStore | flush | barrier | retry | discard | dropClean | reprobe | unknownCommand =>
    simp only [exec, execRegionApply, execWatchApply, execSettingsApply, execEventFlagClear, execFaultRecordEmpty,
      execReadOnlyApply, execCommandArgumentStore, execFlush, execBarrier, execRetry, execDiscard, execDropClean,
      execReprobe, execUnknownCommand] at h
    exact hs.applyRow h
  | _ => cases hc

/-- The rows that act on a device and not on the operation on the link. -/
theorem exec_deviceRow_devicesGood {c : Instr} {d : Fin 4} {s t : State} (hc : commandClass c = .pageLink (some d))
    (h : exec c s = .next t) (hs : s.devicesGood) : t.devicesGood := by
  have advanced (time : Time) : (s.advanceTo time).devicesGood := hs
  cases c with
  | pollDue d =>
    simp only [exec, execPollDue] at h
    refine hs.act_same h ?_
    split
    · rfl
    · split <;> rfl
  | programTimeout d =>
    simp only [exec, execProgramTimeout] at h
    refine hs.act h ?_
    split
    · exact hs
    · split
      · exact (advanced _).programTimedOut d
      · exact hs
  | probeSelectDue d =>
    simp only [exec, execProbeSelectDue] at h
    refine hs.act_same h ?_
    split
    · rfl
    · split <;> rfl
  | probeDeadline d =>
    simp only [exec, execProbeDeadline] at h
    refine hs.act h ?_
    split
    · exact hs
    · split
      · exact hs
      · exact (advanced _).deviceAbsent d
  | _ => cases hc

theorem exec_linkRow_devicesGood {c : Instr} {s t : State} (hc : commandClass c = .pageLink none)
    (h : exec c s = .next t) (hs : s.devicesGood) : t.devicesGood := by
  have freed (l : LinkOperation) : (s.freeLink l).devicesGood := hs
  have completed (l : LinkOperation) : (s.readCompleted l).devicesGood := hs.counterMoved l _
  cases c with
  | pageFetchComplete data =>
    simp only [exec, execPageFetchComplete] at h
    refine hs.act h ?_
    split
    · exact hs
    · rename_i l _
      split
      · split
        · exact (completed l).of_devices (by simp)
        · exact completed l
      all_goals exact hs
  | checkReadComplete data =>
    simp only [exec, execCheckReadComplete] at h
    refine hs.act h ?_
    split
    · exact hs
    · rename_i l _
      split
      · refine (completed l).of_devices ?_
        split
        · split <;> simp
        · rfl
      all_goals exact hs
  | descriptorReadComplete data =>
    simp only [exec, execDescriptorReadComplete] at h
    refine hs.act h ?_
    split
    · exact hs
    · rename_i l _
      split
      · exact completed l
      all_goals exact hs
  | streamReadComplete data =>
    simp only [exec, execStreamReadComplete] at h
    refine hs.act h ?_
    split
    · exact hs
    · rename_i l _
      split
      · exact (completed l).of_devices (by simp)
      all_goals exact hs
  | arbiterStart =>
    simp only [exec, execArbiterStart] at h
    exact hs.act_same h (by unfold State.arbiterStart; split <;> rfl)
  | transferError byteIndex =>
    simp only [exec, execTransferError] at h
    refine hs.act h ?_
    split
    · exact hs
    · rename_i l _
      split
      case h_1 => exact hs
      case h_2 => exact hs
      all_goals
        split
        · exact hs.transferBroken l byteIndex
        · exact hs
  | programComplete =>
    simp only [exec, execProgramComplete] at h
    refine hs.act h ?_
    split
    · exact hs
    · rename_i l _
      split
      · have moved := hs.counterMoved l (programEndAddress l.operation)
        split
        · exact moved.enterBusy _ _
        · exact moved
      all_goals exact hs
  | pollAcknowledge =>
    simp only [exec, execPollAcknowledge] at h
    refine hs.act h ?_
    split
    · exact hs
    · rename_i l _
      split
      · exact (freed l).pollAcknowledged _
      all_goals exact hs
  | pollRefuse =>
    simp only [exec, execPollRefuse] at h
    refine hs.act h ?_
    split
    · exact hs
    · rename_i l _
      split
      · exact (freed l).pollRefused _
      all_goals exact hs
  | probeSelectAcknowledge =>
    simp only [exec, execProbeSelectAcknowledge] at h
    refine hs.act h ?_
    split
    · exact hs
    · rename_i l _
      split
      · exact (freed l).setDevice (Device.good_ready _ _) _
      all_goals exact hs
  | probeSelectRefuse =>
    simp only [exec, execProbeSelectRefuse] at h
    refine hs.act h ?_
    split
    · exact hs
    · rename_i l _
      split
      · exact (freed l).probeRefused _
      all_goals exact hs
  | _ => cases hc

theorem exec_devicesGood {c : Instr} {s t : State} (h : exec c s = .next t) (hs : s.devicesGood) : t.devicesGood := by
  rcases hc : commandClass c with _ | device | _ | _ | _ | _
  · exact exec_hostBus_devicesGood hc h hs
  · cases device with
    | none => exact exec_linkRow_devicesGood hc h hs
    | some d => exact exec_deviceRow_devicesGood hc h hs
  · exact exec_commits_devicesGood hc h hs
  · exact exec_supply_devicesGood hc h hs
  · exact exec_reset_devicesGood hc h hs
  · exact exec_management_devicesGood hc h hs

/-- Settles O58, row by row of the table: a record changes its state only together with the deadlines and the counter of the
new one, and start-up, capacity changes and transfers write but capacity and counter. -/
theorem stepKeepsDevicesGood : Obligations.StepKeepsDevicesGood := by
  intro s t hs h
  unfold step at h
  split at h
  · cases h
    exact hs
  · exact exec_devicesGood h (s := { s with pending := _ }) hs

end Sys2Proof.Machine
end

section
/-! PROOFS. The arbiter takes the first operation it may start, by class and rank (R124): O21; and the bytes sent in a transfer
(R110, R111, R112, R113, R114): O22. -/
namespace Sys2Proof.Machine

/-! ### The order of the request set (R124) -/

theorem leastRank_eq_none {rank : Operation → Nat} {l : List Operation} (h : leastRank rank l = none) : l = [] := by
  cases l with
  | nil => rfl
  | cons o rest =>
    unfold leastRank at h
    split at h
    · cases h
    · split at h <;> cases h

theorem leastRank_spec {rank : Operation → Nat} {l : List Operation} {o : Operation} (h : leastRank rank l = some o) :
    o ∈ l ∧ ∀ o' ∈ l, rank o ≤ rank o' := by
  induction l generalizing o with
  | nil => cases h
  | cons first rest ih =>
    unfold leastRank at h
    split at h
    · rename_i hnone
      cases h
      rw [leastRank_eq_none hnone]
      simp
    · rename_i least hleast
      obtain ⟨member, lowest⟩ := ih hleast
      split at h
      · rename_i hle
        cases h
        exact ⟨by simp, List.forall_mem_cons.mpr ⟨le_rfl, fun o' ho => hle.trans (lowest o' ho)⟩⟩
      · rename_i hlt
        cases h
        exact ⟨List.mem_cons_of_mem _ member, List.forall_mem_cons.mpr ⟨by omega, lowest⟩⟩

theorem LinkClass.rank_injective {c c' : LinkClass} (h : c.rank = c'.rank) : c = c' := by
  cases c <;> cases c' <;> simp [LinkClass.rank] at h ⊢

namespace State

variable {s : State} {o : Operation} {c : LinkClass}

theorem chooseIn_eq_some (h : s.chooseIn c = some o) : o ∈ s.requests ∧ s.classOf o = c ∧ s.mayStart o = true ∧
    ∀ o' ∈ s.requests, s.classOf o' = c → s.mayStart o' = true → s.rankOf o ≤ s.rankOf o' := by
  obtain ⟨member, lowest⟩ := leastRank_spec h
  simp only [List.mem_filter, Bool.and_eq_true, decide_eq_true_eq] at member lowest
  obtain ⟨member, class_, may⟩ := member
  exact ⟨member, class_, may, fun o' ho hc hm => lowest o' ⟨ho, hc, hm⟩⟩

theorem chooseIn_eq_none (h : s.chooseIn c = none) (ho : o ∈ s.requests) (hc : s.classOf o = c) : s.mayStart o = false := by
  have none_left := List.filter_eq_nil_iff.mp (leastRank_eq_none h) o ho
  simpa [hc] using none_left

/-- The choice is made in its class, and no class before it holds an operation to start. -/
theorem choose_eq_some (h : s.choose = some o) :
    s.chooseIn (s.classOf o) = some o ∧ ∀ c : LinkClass, c.rank < (s.classOf o).rank → s.chooseIn c = none := by
  have chosen (c : LinkClass) (hc : s.chooseIn c = some o)
      (before : ∀ c' : LinkClass, c'.rank < c.rank → s.chooseIn c' = none) :
      s.chooseIn (s.classOf o) = some o ∧ ∀ c : LinkClass, c.rank < (s.classOf o).rank → s.chooseIn c = none := by
    obtain ⟨-, class_, -⟩ := chooseIn_eq_some hc
    rw [class_]
    exact ⟨hc, before⟩
  unfold choose at h
  simp only [Option.orElse_eq_orElse, Option.orElse_eq_or, Option.or_eq_some_iff] at h
  rcases h with h | ⟨hd, h | ⟨hp, h | ⟨hc, h | ⟨hf, h⟩⟩⟩⟩
  · exact chosen .demand h fun c' hc => absurd hc (Nat.not_lt_zero _)
  · refine chosen .poll h fun c' hlt => ?_
    cases c' <;> simp_all [LinkClass.rank]
  · refine chosen .commit h fun c' hlt => ?_
    cases c' <;> simp_all [LinkClass.rank]
  · refine chosen .prefetch h fun c' hlt => ?_
    cases c' <;> simp_all [LinkClass.rank]
  · refine chosen .probe h fun c' hlt => ?_
    cases c' <;> simp_all [LinkClass.rank]

/-- The choice is an operation that may start, none in a class before it may, and none before it in its class. -/
theorem choose_first (h : s.choose = some o) : o ∈ s.requests ∧ s.mayStart o = true ∧
    ∀ o' ∈ s.requests, s.mayStart o' = true →
      (s.classOf o).rank < (s.classOf o').rank ∨ (s.classOf o = s.classOf o' ∧ s.rankOf o ≤ s.rankOf o') := by
  obtain ⟨here, before⟩ := choose_eq_some h
  obtain ⟨member, -, may, lowest⟩ := chooseIn_eq_some here
  refine ⟨member, may, fun o' ho' hm => ?_⟩
  rcases Nat.lt_trichotomy (s.classOf o).rank (s.classOf o').rank with hlt | heq | hgt
  · exact .inl hlt
  · have same := LinkClass.rank_injective heq
    exact .inr ⟨same, lowest o' ho' same.symm hm⟩
  · have idle := chooseIn_eq_none (before _ hgt) ho' rfl
    rw [idle] at hm
    cases hm

theorem choose_isSome (ho : o ∈ s.requests) (hm : s.mayStart o = true) : s.choose.isSome = true := by
  cases hc : s.choose with
  | some _ => rfl
  | none =>
    unfold choose at hc
    simp only [Option.orElse_eq_orElse, Option.orElse_eq_or, Option.or_eq_none_iff] at hc
    obtain ⟨hd, hp, hc, hf, hs⟩ := hc
    have idle : s.chooseIn (s.classOf o) = none := by
      cases s.classOf o <;> assumption
    have refused := chooseIn_eq_none idle ho rfl
    rw [hm] at refused
    cases refused

/-- What the arbiter may start (R115, R124). -/
theorem mayStart_iff (s : State) (o : Operation) : s.mayStart o = true ↔
    (o.kind = .poll ∧ s.devices[o.device].probe = none) ∨
    (o.kind = .probeSelect ∧ s.devices[o.device].probe ≠ none ∧ s.devices[o.device].state ≠ .programming) ∨
    (o.kind ≠ .poll ∧ o.kind ≠ .probeSelect ∧ s.devices[o.device].state = .ready ∧
      s.devices[o.device].probe = none) := by
  unfold mayStart
  cases hk : o.kind <;> simp [Option.isSome_iff_ne_none]

/-- Polls are ranked by due time and then by device. -/
theorem rankOf_poll {o' : Operation} (ho : o.kind = .poll) (ho' : o'.kind = .poll) {due due' : Nat}
    (hd : s.devices[o.device].pollDue = some due) (hd' : s.devices[o'.device].pollDue = some due') :
    s.rankOf o ≤ s.rankOf o' ↔ due < due' ∨ (due = due' ∧ o.device ≤ o'.device) := by
  simp only [rankOf, ho, ho', hd, hd', Option.getD_some, Fin.le_def]
  omega

/-- Operations for buffers are ranked by the places of their entries. -/
theorem rankOf_served {b : Fin 16} {place : Nat} (ho : o.kind.servedBuffer = some b)
    (hp : s.queue.findIdx? (·.isFor b) = some place) : s.rankOf o = place := by
  unfold OperationKind.servedBuffer at ho
  split at ho
  all_goals cases ho
  all_goals rename_i hk; simp [rankOf, hk, Queue.position, hp]

end State

/-- Settles O21: the arbiter looks through the classes in their order and takes the least rank of the first that holds an
operation it may start. -/
theorem arbiterTakesTheFirstItMayStart : Obligations.ArbiterTakesTheFirstItMayStart := by
  refine ⟨fun s o h => State.choose_first h, fun s o => State.choose_isSome, State.mayStart_iff, fun s o => ?_,
    by decide, fun s o o' => ⟨fun ho ho' due due' hd hd' => State.rankOf_poll ho ho' hd hd',
      fun b b' place place' ho ho' hp hp' => ?_, fun ho ho' => ?_⟩⟩
  · unfold State.classOf
    cases o.kind <;> rfl
  · rw [State.rankOf_served ho hp, State.rankOf_served ho' hp']
  · simp only [State.rankOf, ho, ho', Fin.le_def]

/-! ### The bytes of a transfer (12 section 12.1) -/

/-- The select byte of a write: leading bits, device number, bit 16 of the address (R110). -/
theorem selectByte_write (d : Fin 4) {start : Nat} (h : start < 131072) :
    selectByte d start false = BitVec.ofNat 8 (0xC0 + 8 * d.val + 2 * (start / 65536)) := by
  have bit : start.testBit 16 = decide (start / 65536 = 1) := by
    rw [Nat.testBit_eq_decide_div_mod_eq]
    congr 1
    simp only [eq_iff_iff]
    omega
  have table : ∀ (d : Fin 4) (k : Fin 2), 0xC0 ||| byte (d.val * 8) ||| bitAt (decide (k.val = 1)) 1 ||| bitAt false 0 =
      BitVec.ofNat 8 (0xC0 + 8 * d.val + 2 * k.val) := by decide
  unfold selectByte
  rw [bit]
  exact table d ⟨start / 65536, by omega⟩

/-- The select byte of a read differs in the direction bit (R110). -/
theorem selectByte_read (d : Fin 4) (start : Nat) : selectByte d start true = selectByte d start false ||| 1 := by
  have direction : bitAt true 0 = (1 : Byte) ∧ bitAt false 0 = (0 : Byte) := by decide
  unfold selectByte
  rw [direction.1, direction.2]
  exact congrArg (· ||| 1) BitVec.or_zero.symm

/-- Settles O22: the bytes of each form are spelled by the select byte and the two address bytes. -/
theorem sentBytesSpellTheTransfer : Obligations.SentBytesSpellTheTransfer := by
  intro s o h
  have write := selectByte_write o.device h
  refine ⟨fun x hx => ?_, ?_, ?_, ?_⟩
  · simp only [State.sentBytes, hx, write, byte]
  · simp only [State.sentBytes, selectByte_read, write, byte]
  · simp only [State.sentBytes, selectByte_read, write]
  · simp only [State.sentBytes, selectByte_write o.device (show 0 < 131072 by decide), Nat.zero_div,
      Nat.mul_zero, Nat.add_zero]

end Sys2Proof.Machine
end

section
/-! PROOFS. The rows of the page link that leave a settled state settled: the arbiter's start, a retried transfer, due times,
refused polls and probe selects (R113, R118, R120, R122, R124, R129): O20, O24; and REPROBE (R130): O51. -/
namespace Sys2Proof.Machine

/-! ### What the conditions of the consequences read of the page link -/

namespace State

/-- Whether an access can be resolved again is seen from its record alone. -/
theorem resolveAgain_isSome_congr {u w : State} (port : u.port = w.port) :
    u.resolveAgain.isSome = w.resolveAgain.isSome := by
  unfold resolveAgain
  rw [port]
  split
  · rfl
  · split <;> rfl

/-- What the condition of a waiting access reads (R76, R77, R79, R38, R138). -/
theorem settleAccess_isSome_congr {u w : State} (port : u.port = w.port) (queue : u.queue = w.queue)
    (buffers : u.buffers = w.buffers) (stream : u.stream = w.stream) :
    u.settleAccess.isSome = w.settleAccess.isSome := by
  have failed (b : Fin 16) : u.isFailed b = w.isFailed b := by
    unfold isFailed
    rw [buffers]
  have blocked (b : Fin 16) : u.blocked b = w.blocked b := by
    unfold State.blocked
    rw [queue, funext failed]
  unfold settleAccess
  rw [waiting_congr port]
  split
  · simp only [settleHeldWrite, apply_ite Option.isSome, queue, failed, blocked, resolveAgain_isSome_congr port,
      Option.isSome_some]
  · simp only [settleWriteThrough, apply_ite Option.isSome, queue, failed, Option.isSome_some]
  · simp only [settleFetchRead, apply_ite Option.isSome, buffers, resolveAgain_isSome_congr port]
  · unfold settleDemandRead
    rw [stream]
    split <;> rfl
  all_goals rfl

/-- What the condition of an access that waits for a buffer reads (R53, R54). -/
theorem settleBufferWait_isSome_congr {u w : State} (port : u.port = w.port) (queue : u.queue = w.queue)
    (buffers : u.buffers = w.buffers) (recency : u.recency = w.recency) :
    u.settleBufferWait.isSome = w.settleBufferWait.isSome := by
  have victim : u.victim = w.victim := by
    unfold State.victim
    rw [buffers, recency]
  have test : u.noBufferTest = w.noBufferTest := by
    unfold noBufferTest blocked isFailed
    rw [buffers, queue]
  unfold settleBufferWait
  rw [waiting_congr port, victim, test]
  split
  · split
    · exact resolveAgain_isSome_congr port
    · split <;> rfl
  · rfl

/-- Of request set, link and device records no condition reads more than the states of the devices and, until start-up is
over, what the Sequencer waits on. `u` agrees with `s` in that, and in each other field that a condition reads. -/
structure SameWork (s u : State) : Prop where
  fields : s.SameConditions { u with devices := s.devices, requests := s.requests, link := s.link }
  devices : ∀ d : Fin 4, u.devices[d].state = s.devices[d].state
  startup : s.settleStartup = none → u.settleStartup = none

section SameWork
variable {s u : State}

theorem SameWork.startable (h : s.SameWork u) (x : DeviceState) (b : Fin 16) : u.startable x b = s.startable x b := by
  refine Eq.trans ?_ (h.fields.startable x b)
  unfold State.startable
  dsimp only [State.deviceOfBuffer]
  split
  · rfl
  · rw [h.devices]
    rfl

theorem SameWork.settled (h : s.SameWork u) (hs : s.settled) : u.settled := by
  obtain ⟨access, flush, fill, entries, buffer, start⟩ := settled_iff.mp hs
  have port : u.port = s.port := h.fields.port
  have queue : u.queue = s.queue := h.fields.queue
  have buffers : u.buffers = s.buffers := h.fields.buffers
  have spent : u.budgetSpent = s.budgetSpent := h.fields.budgetSpent
  refine settled_iff.mpr ⟨?_, ?_, ?_, ?_, ?_, h.startup start⟩
  · rw [← Option.not_isSome_iff_eq_none] at access ⊢
    rwa [settleAccess_isSome_congr port queue buffers h.fields.stream]
  · simpa [settleFlush, flushComplete, queue, buffers] using flush
  · simpa [settleFill, engineWaits, spent, buffers] using fill
  · simpa [settleQueue, eligible, meetsButForDevice, queue, h.startable] using entries
  · rw [← Option.not_isSome_iff_eq_none] at buffer ⊢
    rwa [settleBufferWait_isSome_congr port queue buffers h.fields.recency]

/-- A command that changes nothing that a condition reads has no further effect on a settled state. -/
theorem SameWork.conclude (h : s.SameWork u) (hs : s.settled) : u.conclude s = u := by
  have short : u.shortCondition = s.shortCondition := h.fields.shortCondition
  exact conclude_of_settled (h.settled hs) (by rw [short]; cases s.shortCondition <;> simp)

/-- The probes in progress and the Sequencer's read stand as they were. -/
theorem settleStartup_of_same (held : u.resetHeld = s.resetHeld) (phase : u.startup.phase = s.startup.phase)
    (probing : ∀ d : Fin 4, u.devices[d].probe.isSome = s.devices[d].probe.isSome)
    (reading : u.readingDescriptor = s.readingDescriptor) (h : s.settleStartup = none) : u.settleStartup = none := by
  have probes : u.probing = s.probing := by
    unfold State.probing
    simp only [probing]
  unfold settleStartup at h ⊢
  rw [held, phase, probes, reading]
  repeat' split at h
  all_goals simp_all

/-- Other device records, another request set and another link: no condition hears of them where the state of each device and
the probes in progress are the same and the Sequencer's read stands. -/
theorem sameWork_link (s : State) (now : Time) {devices : Vector Device 4} {requests : List Operation}
    {link : Option LinkOperation} (state : ∀ d : Fin 4, devices[d].state = s.devices[d].state)
    (probe : ∀ d : Fin 4, devices[d].probe.isSome = s.devices[d].probe.isSome)
    (reading : { s with requests := requests, link := link }.readingDescriptor = s.readingDescriptor) :
    s.SameWork { s with now := now, devices := devices, requests := requests, link := link } where
  fields := ⟨rfl, rfl, rfl, rfl, rfl, rfl, rfl, rfl, rfl, rfl, rfl, rfl, rfl⟩
  devices := state
  startup := settleStartup_of_same rfl rfl probe reading

end SameWork

/-- What is the same in the record of one device is the same in every record. -/
theorem devices_set_congr {α : Type} {s : State} {d : Fin 4} {x : Device} {f : Device → α} (h : f x = f s.devices[d])
    (e : Fin 4) : f (s.devices.set d x)[e] = f s.devices[e] := by
  rw [vector_set_fin]
  split
  · next he => rw [he, h]
  · rfl

/-! ### The Sequencer's read (R184, R185) -/

/-- A request of another kind is no descriptor read. -/
theorem readingDescriptor_request (s : State) {o : Operation} (h : o.kind ≠ .descriptorRead) :
    { s with requests := s.requests ++ [o] }.readingDescriptor = s.readingDescriptor := by
  simp [readingDescriptor, requested, onLink, h]

/-- The link falls free of an operation that is no descriptor read. -/
theorem readingDescriptor_freed {s : State} {l : LinkOperation} (hl : s.link = some l)
    (h : l.operation.kind ≠ .descriptorRead) : { s with link := none }.readingDescriptor = s.readingDescriptor := by
  simp [readingDescriptor, requested, onLink, hl, h]

/-- Another attempt of the operation on the link. -/
theorem readingDescriptor_relinked {s : State} {l l' : LinkOperation} (hl : s.link = some l)
    (h : l'.operation = l.operation) : { s with link := some l' }.readingDescriptor = s.readingDescriptor := by
  simp only [readingDescriptor, requested, onLink, hl, h]

/-- An operation goes from the request set to the idle link. -/
theorem readingDescriptor_started {s : State} {l : LinkOperation} (hl : s.link = none) (ho : l.operation ∈ s.requests) :
    { s with requests := s.requests.erase l.operation, link := some l }.readingDescriptor = s.readingDescriptor := by
  simp only [readingDescriptor, requested, onLink, hl, (List.perm_cons_erase ho).any_eq, List.any_cons, Bool.or_false]
  exact Bool.or_comm _ _

/-! ### The arbiter's start and a retried transfer (R113, R118, R124) -/

/-- The operation that the arbiter hands to the link, in its first attempt. -/
def firstAttempt (s : State) (o : Operation) : LinkOperation :=
  { operation := o, form := s.formOf o, attempts := 1, selectErrors := 0, attemptStart := s.now, hasRequester := true,
    counterLost := false }

theorem arbiterStart_of_choice {s : State} {o : Operation} (hl : s.link = none) (h : s.choose = some o) :
    s.arbiterStart = { s with requests := s.requests.erase o, link := some (s.firstAttempt o) } := by
  unfold arbiterStart
  rw [hl, h]
  rfl

theorem exec_arbiterStart {s : State} {o : Operation} (hr : s.resetHeld = false) (hs : s.settled) (hl : s.link = none)
    (h : s.choose = some o) :
    exec .arbiterStart s = .next { s with requests := s.requests.erase o, link := some (s.firstAttempt o) } := by
  have work : s.SameWork { s with requests := s.requests.erase o, link := some (s.firstAttempt o) } :=
    s.sameWork_link s.now (fun _ => rfl) (fun _ => rfl)
      (readingDescriptor_started (l := s.firstAttempt o) hl (mem_of_choose h))
  simp only [exec, execArbiterStart, act_of_released hr, arbiterStart_of_choice hl h, work.conclude hs]

/-- An unacknowledged byte of a transfer that is no poll and no probe select breaks the attempt (R109, R114). -/
theorem exec_transferError {s : State} {l : LinkOperation} {i : Nat} (hr : s.resetHeld = false) (hl : s.link = some l)
    (poll : l.operation.kind ≠ .poll) (select : l.operation.kind ≠ .probeSelect)
    (hi : i < sentCount l.form l.operation.length) :
    exec (.transferError i) s = .next ((s.transferBroken l i).conclude s) := by
  simp only [exec, execTransferError, act_of_released hr, hl]
  cases hk : l.operation.kind <;> simp_all

/-- The form of an attempt made with the counter UNKNOWN (R113). -/
theorem formOf_unknown {s : State} {o : Operation} (h : s.devices[o.device].counter = none) (poll : o.kind ≠ .poll)
    (select : o.kind ≠ .probeSelect) : s.formOf o = match o.kind with
      | .program _ => .program
      | _ => .addressedRead := by
  unfold formOf
  rw [h]
  cases hk : o.kind <;> simp_all

end State

/-- Settles O20: the chosen operation goes from the request set to the link, which no condition of a consequence hears of. -/
theorem arbiterStartsItsChoice : Obligations.ArbiterStartsItsChoice := by
  intro o s hr hs hl h
  rw [State.exec_arbiterStart hr hs hl h, State.firstAttempt]
  rfl

/-- Settles O24: the next attempt is the same operation, in the form of an UNKNOWN counter. -/
theorem transferErrorIsRetried : Obligations.TransferErrorIsRetried := by
  intro i l s hr hs hl poll select hi hattempts
  rw [State.exec_transferError hr hl poll select hi]
  have counter : ((s.advanceTo (l.attemptStart + brokenPeriods l.form i * 16)).setDevice l.operation.device
      { s.devices[l.operation.device] with counter := none }).devices[l.operation.device].counter = none := by
    rw [State.devices_setDevice, if_pos rfl]
  have broken : s.transferBroken l i = ((s.advanceTo (l.attemptStart + brokenPeriods l.form i * 16)).setDevice
      l.operation.device { s.devices[l.operation.device] with counter := none }).nextAttempt l
        (if i = 0 then l.selectErrors + 1 else l.selectErrors) := if_pos hattempts
  rw [broken, State.nextAttempt, State.formOf_unknown counter poll select]
  exact congrArg _ (State.SameWork.conclude (s.sameWork_link _ (State.devices_set_congr (f := Device.state) rfl)
    (State.devices_set_congr (f := fun x => x.probe.isSome) rfl) (State.readingDescriptor_relinked hl rfl)) hs)

end Sys2Proof.Machine
end

section
/-! PROOFS. Polls and probe selects: the due times and the answers that leave a probe or a poll going (R120, R122, R129): O27,
O32; and REPROBE (R129, R130): O51. -/
namespace Sys2Proof.Machine
namespace State

/-! ### What the consequences of a step leave of the link -/

/-- In service the consequences of a step write no device record. -/
theorem conclude_devices {s : State} (hdone : s.startup.phase = .done) (before : State) :
    (s.conclude before).devices = s.devices :=
  ((conclude_leavesAlone (k := .commits) (keeps := false) hdone before).link (.inr (.inl rfl))).1

/-- In service the consequences of a step leave an idle link idle. -/
theorem conclude_idle {s : State} (hdone : s.startup.phase = .done) (hl : s.link = none) (before : State) :
    (s.conclude before).link = none := by
  have operation := ((conclude_leavesAlone (k := .commits) (keeps := false) hdone before).link (.inr (.inl rfl))).2
  rw [hl] at operation
  exact Option.map_eq_none_iff.mp operation

theorem conclude_self {s : State} (hs : s.settled) : s.conclude s = s :=
  conclude_of_settled hs (by cases s.shortCondition <;> simp)

/-! ### Due times (R120, R122, R129) -/

/-- A due time brings a request that is no descriptor read, and nothing else, to a settled state. -/
theorem conclude_due {s : State} (hs : s.settled) (due : Time) {o : Operation} (h : o.kind ≠ .descriptorRead) :
    ((s.advanceTo due).request o).conclude s = { s with now := max s.now due, requests := s.requests ++ [o] } :=
  (s.sameWork_link (max s.now due) (fun _ => rfl) (fun _ => rfl) (s.readingDescriptor_request h)).conclude hs

theorem exec_pollDue {s : State} {d : Fin 4} {due : Time} (hr : s.resetHeld = false) (hs : s.settled)
    (h : s.devices[d].pollDue = some due) : exec (.pollDue d) s = .next
      (if s.devices[d].probe.isSome || s.requested .poll d || s.onLink .poll d then s
      else { s with
        now := max s.now due, requests := s.requests ++ [{ kind := .poll, device := d, start := 0, length := 0 }] }) := by
  simp only [exec, execPollDue, act_of_released hr, h]
  split
  · rw [conclude_self hs]
  · exact congrArg _ (conclude_due hs due nofun)

theorem exec_probeSelectDue {s : State} {d : Fin 4} {p : Probe} (hr : s.resetHeld = false) (hs : s.settled)
    (h : s.devices[d].probe = some p) : exec (.probeSelectDue d) s = .next
      (if s.requested .probeSelect d || s.onLink .probeSelect d then s
      else { s with
        now := max s.now p.selectDue
        requests := s.requests ++ [{ kind := .probeSelect, device := d, start := 0, length := 0 }] }) := by
  simp only [exec, execProbeSelectDue, act_of_released hr, h]
  split
  · rw [conclude_self hs]
  · exact congrArg _ (conclude_due hs p.selectDue nofun)

/-! ### Answers (R120, R122, R129) -/

/-- The link falls free of a poll or a probe select, and one device's record changes neither state nor probe. -/
theorem conclude_answered {s : State} {l : LinkOperation} (hs : s.settled) (hl : s.link = some l)
    (hk : l.operation.kind ≠ .descriptorRead) {d : Fin 4} {x : Device} (state : x.state = s.devices[d].state)
    (probe : x.probe.isSome = s.devices[d].probe.isSome) : ((s.freeLink l).setDevice d x).conclude s =
      { s with now := max s.now l.endTime, link := none, devices := s.devices.set d x } :=
  (s.sameWork_link (max s.now l.endTime) (devices_set_congr (f := Device.state) state)
    (devices_set_congr (f := fun y => y.probe.isSome) probe) (readingDescriptor_freed hl hk)).conclude hs

theorem exec_pollRefuse {s : State} {l : LinkOperation} (hr : s.resetHeld = false) (h : s.runs l .poll) :
    exec .pollRefuse s = .next (((s.freeLink l).pollRefused l.operation.device).conclude s) := by
  obtain ⟨hl, hk⟩ := h
  simp only [exec, execPollRefuse, act_of_released hr, hl, hk]

theorem exec_probeSelectRefuse {s : State} {l : LinkOperation} (hr : s.resetHeld = false) (h : s.runs l .probeSelect) :
    exec .probeSelectRefuse s = .next (((s.freeLink l).probeRefused l.operation.device).conclude s) := by
  obtain ⟨hl, hk⟩ := h
  simp only [exec, execProbeSelectRefuse, act_of_released hr, hl, hk]

/-- The next due time of a poll that is refused while the device stays as it is (R120, R122). -/
theorem pollRefused_again {s : State} {d : Fin 4} {interval : Time}
    (h : s.devices[d].state = .programming ∧ interval = 4000 ∨
      s.devices[d].state = .stuck ∧ s.devices[d].probe = none ∧ interval = 160000) :
    s.pollRefused d = s.setDevice d { s.devices[d] with pollDue := some (s.now + interval) } := by
  unfold pollRefused
  rcases h with ⟨hd, rfl⟩ | ⟨hd, hp, rfl⟩
  · rw [hd]
    rfl
  · rw [hd, hp]
    rfl

/-- The record of a device whose poll is acknowledged (R120, R122). -/
theorem pollAcknowledged_device {s : State} {d : Fin 4} (good : s.devices[d].good = true)
    (h : s.devices[d].state = .programming ∨ s.devices[d].state = .stuck) : (s.pollAcknowledged d).devices[d] =
      { s.devices[d] with
        state := .ready, pollDue := none, timeout := none
        counter := if s.devices[d].state = .stuck then none else s.devices[d].counter } := by
  unfold pollAcknowledged
  rcases h with hd | hd
  · have devices (u : State) (b : Fin 16) : (u.endBusy b).devices = u.devices := by simp
    simp only [hd]
    split
    · refine (congrArg (fun v : Vector Device 4 => v[d]) (devices _ _)).trans ?_
      rw [devices_setDevice, if_pos rfl]
      simp
    · rw [devices_setDevice, if_pos rfl]
      simp
  · have timeout : s.devices[d].timeout = none := by
      simp only [Device.good, hd, decide_eq_true_eq] at good
      exact good.2
    simp only [hd]
    rw [devices_setDevice, if_pos rfl, timeout]
    simp

/-- A probe select refused before the probe deadline sets the next one's due time (R129). -/
theorem probeRefused_again {s : State} {d : Fin 4} {p : Probe} (h : s.devices[d].probe = some p) (hp : s.now < p.deadline) :
    s.probeRefused d = s.setDevice d { s.devices[d] with probe := some { p with selectDue := s.now + 4000 } } := by
  unfold probeRefused
  rw [h]
  exact if_neg (Nat.not_le.mpr hp)

theorem exec_probeSelectAcknowledge {s : State} {l : LinkOperation} (hr : s.resetHeld = false)
    (h : s.runs l .probeSelect) : exec .probeSelectAcknowledge s = .next (((s.freeLink l).setDevice l.operation.device
      { s.devices[l.operation.device] with state := .ready, pollDue := none, timeout := none, probe := none }).conclude s) := by
  obtain ⟨hl, hk⟩ := h
  simp only [exec, execProbeSelectAcknowledge, act_of_released hr, hl, hk]
  rfl

end State

/-- Settles O27: due times and refusals change nothing that a condition reads; an acknowledge may end a commit, whose
consequences write no device record and leave the link idle. -/
theorem pollsAreAnswered : Obligations.PollsAreAnswered := by
  refine ⟨fun d due s hr hs h => State.exec_pollDue hr hs h, fun l s hservice good hl h => ?_,
    fun l interval s hr hs hl h => ?_⟩
  · obtain ⟨hr, hdone⟩ := hservice
    have startup : ((s.freeLink l).pollAcknowledged l.operation.device).startup = s.startup := by simp
    have done : ((s.freeLink l).pollAcknowledged l.operation.device).startup.phase = .done := by rw [startup, hdone]
    have idle : ((s.freeLink l).pollAcknowledged l.operation.device).link = none := by simp [State.freeLink]
    refine ⟨_, State.exec_pollAcknowledge hr hl, State.conclude_idle done idle s, ?_, ?_⟩
    · simp [State.freeLink, State.advanceTo]
    · rw [State.conclude_devices done]
      exact State.pollAcknowledged_device (s := s.freeLink l) (good _) h
  · obtain ⟨hlink, hk⟩ := id hl
    rw [State.exec_pollRefuse hr hl, State.pollRefused_again (s := s.freeLink l) h]
    exact congrArg _ (State.conclude_answered hs hlink (by rw [hk]; exact nofun) rfl rfl)

/-- Settles O32: as for polls; a probe that goes on keeps being one. -/
theorem probeGoesOnOrEndsReady : Obligations.ProbeGoesOnOrEndsReady := by
  refine ⟨⟨fun d p s hr hs h => State.exec_probeSelectDue hr hs h, fun l p s hr hs hl h hp => ?_⟩,
    fun l s hservice hl => ?_⟩
  · obtain ⟨hlink, hk⟩ := id hl
    rw [State.exec_probeSelectRefuse hr hl, State.probeRefused_again (s := s.freeLink l) h hp]
    refine congrArg _ (State.conclude_answered hs hlink (by rw [hk]; exact nofun) rfl ?_)
    rw [h]
    rfl
  · obtain ⟨hr, hdone⟩ := hservice
    have acknowledge := State.exec_probeSelectAcknowledge hr hl
    generalize hu : (s.freeLink l).setDevice l.operation.device _ = u at acknowledge
    have done : u.startup.phase = .done := hu ▸ hdone
    have idle : u.link = none := hu ▸ rfl
    refine ⟨_, acknowledge, State.conclude_idle done idle s, ?_, ?_⟩
    · rw [State.conclude_now, ← hu]
      rfl
    · rw [State.conclude_devices done, ← hu, State.devices_setDevice, if_pos rfl]

/-! ### REPROBE (R129, R130) -/

namespace State

variable {s : State} {d : Fin 4} {x : Shadow}

theorem reprobeArgument_of_free (ha : s.management.argument.toNat = d.val) (hc : s.deviceCommitting d = false)
    (hp : s.devices[d].probe = none) : s.reprobeArgument = some d := by
  have named : (⟨s.management.argument.toNat, ha ▸ d.isLt⟩ : Fin 4) = d := Fin.ext ha
  have probe : (s.devices[s.management.argument.toNat]'(ha ▸ d.isLt)).probe = none := by
    simp only [ha]
    exact hp
  unfold reprobeArgument
  rw [dif_pos (ha ▸ d.isLt), named, if_pos (by rw [hc, probe]; rfl)]

theorem reprobeArgument_of_taken (h : ∀ d : Fin 4, s.management.argument.toNat = d.val →
    s.deviceCommitting d = true ∨ s.devices[d].probe ≠ none) : s.reprobeArgument = none := by
  unfold reprobeArgument
  split
  · rename_i hlt
    refine if_neg fun free => ?_
    simp only [Bool.and_eq_true, Bool.not_eq_true', Option.isNone_iff_eq_none] at free
    obtain ⟨idle, unprobed⟩ := free
    rcases h ⟨_, hlt⟩ rfl with hc | hp
    · rw [idle] at hc
      cases hc
    · exact hp unprobed
  · rfl

/-- The start of a probe changes no device's state, so that in service no condition hears of it (R129). -/
theorem startProbe_sameWork (hdone : s.startup.phase = .done) (d : Fin 4) (bound : Time) (m : Management) :
    s.SameWork { s.startProbe d bound with management := m } where
  fields := ⟨rfl, rfl, rfl, rfl, rfl, rfl, rfl, rfl, rfl, rfl, rfl, rfl, rfl⟩
  devices := devices_set_congr (f := Device.state) rfl
  startup _ := settleStartup_of_done hdone

theorem exec_reprobe (hservice : s.inService) (hs : s.settled) (h : s.applies x .reprobe)
    (ha : (s.management.taken x).argument.toNat = d.val) (hc : s.deviceCommitting d = false)
    (hp : s.devices[d].probe = none) : exec .reprobe s = .next
      { s.startProbe d (s.settings.programTimeout * 16000) with
        management := (s.management.taken x).closed .accepted .done } := by
  obtain ⟨hr, hdone⟩ := hservice
  have row := applyRow_of_applies (isKind := fun k => decide (k = .reprobe)) hr h rfl
  have named : (s.takeCommandBytes x).reprobeArgument = some d := reprobeArgument_of_free ha hc hp
  have applied : s.applyShadow x =
      ((s.takeCommandBytes x).startProbe d (s.settings.programTimeout * 16000)).commanded .done := by
    rw [applyShadow, h.2]
    dsimp only
    rw [reprobeCommand, named]
    rfl
  rw [applied] at row
  exact row.trans (congrArg _ ((startProbe_sameWork hdone d _ _).conclude hs))

theorem exec_reprobe_of_refused (hr : s.resetHeld = false) (hs : s.settled) (h : s.applies x .reprobe)
    (ha : ∀ d : Fin 4, (s.management.taken x).argument.toNat = d.val →
      s.deviceCommitting d = true ∨ s.devices[d].probe ≠ none) :
    exec .reprobe s = .next { s with management := (s.management.taken x).closed .accepted .refused } := by
  have unnamed : (s.takeCommandBytes x).reprobeArgument = none := reprobeArgument_of_taken ha
  refine applyRow_of_commandRefused (isKind := fun k => decide (k = .reprobe)) hr hs h rfl ?_
  rw [applyShadow, h.2]
  dsimp only
  rw [reprobeCommand, unnamed]

end State

/-- Settles O51: the probe of the named device starts, which no condition hears of in service; any other argument sets the
statuses alone. -/
theorem reprobeCommandStartsAProbe : Obligations.ReprobeCommandStartsAProbe := by
  rintro x m s hservice hs h rfl
  refine ⟨fun d ha hc hp => State.exec_reprobe hservice hs h ha hc hp, fun ha => ?_⟩
  obtain ⟨hr, -⟩ := hservice
  exact State.exec_reprobe_of_refused hr hs h ha

end Sys2Proof.Machine
end

section
/-! PROOFS. What the operations of a device that can no longer be reached leave when they are ended (R101, R123): the commit queue,
and the record of a buffer that is not COMMITTING; and the access that is refused with them. -/
namespace Sys2Proof.Machine

/-- `y` is the record `x` but for its fill flag. -/
abbrev PageBuffer.SameButFill (x y : PageBuffer) : Prop := y = { x with fill := y.fill }

namespace State

variable {s t u : State} {b : Fin 16} {d : Fin 4} {o : Operation}

/-! ### A page fetch (R43, R101, R123) -/

/-- The page fetch of `b` is cancelled, and the read held on it refused. -/
def fetchEnded (s : State) (b : Fin 16) : State :=
  if s.waiting = some (.fetch b) then (s.cancelFetch b).refuse .device else s.cancelFetch b

/-- The commit of `b` that waited on its fetch ends DIRTY. -/
def fillEnded (s : State) (b : Fin 16) : State := if s.engineWaits b then s.endDirty b else s

theorem endOperation_of_fetch (s : State) (h : o.kind = .pageFetch b) :
    s.endOperation o = ((s.fetchEnded b).fillEnded b).freeIfUnknown b := by
  rw [endOperation, h]
  rfl

theorem fetchEnded_frame (s : State) (b : Fin 16) : (s.fetchEnded b).buffers = (s.cancelFetch b).buffers ∧
    (s.fetchEnded b).queue = s.queue ∧ (s.fetchEnded b).stream = s.stream ∧ (s.fetchEnded b).link = s.link := by
  unfold fetchEnded
  split <;> simp

theorem fillEnded_frame (s : State) (b : Fin 16) : (s.fillEnded b).port = s.port ∧ (s.fillEnded b).flags = s.flags ∧
    (s.fillEnded b).queue = s.queue ∧ (s.fillEnded b).stream = s.stream ∧ (s.fillEnded b).link = s.link := by
  unfold fillEnded
  split <;> simp

theorem coherent.fetchEnded (hs : s.coherent) (h : s.fetchOnLink b = false) : (s.fetchEnded b).coherent := by
  unfold State.fetchEnded
  split
  · exact (refuse_samePool _ _).coherent (hs.cancelFetch h)
  · exact hs.cancelFetch h

theorem coherent.fillEnded (hs : s.coherent) (b : Fin 16) : (s.fillEnded b).coherent := by
  unfold State.fillEnded
  split
  · next hw => exact hs.endDirty (engineWaits_iff.mp hw).1
  · exact hs

/-! ### Records -/

/-- A commit that ends DIRTY writes the record of no buffer that is not COMMITTING. -/
theorem endDirty_other {c : Fin 16} (hb : s.buffers[b].state ≠ .committing) (hc : s.buffers[c].state = .committing) :
    (s.endDirty c).buffers[b] = s.buffers[b] :=
  s.endDirty_sameBuffersBut c b fun h => hb (h ▸ hc)

/-- A buffer with an entry holds a byte (R35). -/
theorem coherent.known (hs : s.coherent) (hb : s.buffers[b].state.hasEntry = true) : s.buffers[b].valid ≠ 0 := by
  obtain ⟨-, records, -⟩ := hs
  obtain ⟨nested, fits⟩ := records b
  intro hv
  rw [PageBuffer.hasEntry_of_unknown nested fits hv] at hb
  cases hb

theorem freeIfUnknown_known (hv : s.buffers[b].valid ≠ 0) (c : Fin 16) : (s.freeIfUnknown c).buffers[b] = s.buffers[b] := by
  unfold freeIfUnknown
  split
  · next hc => exact s.freeBuffer_sameBuffersBut c b fun h => hv (h ▸ hc)
  · rfl

theorem fetchEnded_sameButFill (s : State) (b c : Fin 16) : s.buffers[b].SameButFill (s.fetchEnded c).buffers[b] := by
  obtain ⟨buffers, -⟩ := s.fetchEnded_frame c
  rw [buffers]
  by_cases h : b = c
  · subst h
    rw [show (s.cancelFetch b).buffers[b] = { s.buffers[b] with fill := false } from buffers_setBuffer_self ..]
  · rw [s.cancelFetch_sameBuffersBut c b h]

/-- An operation that ends unstarted clears at most the fill flag of a buffer that is not COMMITTING and holds a byte. -/
theorem endOperation_record (hb : s.buffers[b].state ≠ .committing) (hv : s.buffers[b].valid ≠ 0) (o : Operation) :
    s.buffers[b].SameButFill (s.endOperation o).buffers[b] := by
  cases hk : o.kind with
  | pageFetch c =>
    have cancelled := s.fetchEnded_sameButFill b c
    have ended : ((s.fetchEnded c).fillEnded c).buffers[b] = (s.fetchEnded c).buffers[b] := by
      unfold fillEnded
      split
      · next hw => exact endDirty_other (by rwa [cancelled]) (engineWaits_iff.mp hw).1
      · rfl
    rw [s.endOperation_of_fetch hk, freeIfUnknown_known (by rwa [ended, cancelled]), ended]
    exact cancelled
  | program c | checkRead c =>
    rw [endOperation, hk]
    dsimp only
    split
    · next hstage => rw [endDirty_other hb (inStage_iff.mp hstage).1]
    · rfl
  | streamRead | descriptorRead | poll | probeSelect => simp [endOperation, hk]

theorem endOperations_record (hb : s.buffers[b].state ≠ .committing) (hv : s.buffers[b].valid ≠ 0) (d : Fin 4) :
    s.buffers[b].SameButFill (s.endOperations d).buffers[b] := by
  refine foldl_invariant (P := fun u : State => s.buffers[b].SameButFill u.buffers[b]) rfl fun u o hu => ?_
  have next := u.endOperation_record (b := b) (by rwa [hu]) (by rwa [hu]) o
  rw [hu] at next
  exact next

/-! ### The commit queue -/

/-- A buffer of which nothing is known has no entry, so that its freeing removes none. -/
theorem coherent.freeIfUnknown_queue (hs : s.coherent) (b : Fin 16) : (s.freeIfUnknown b).queue = s.queue := by
  unfold State.freeIfUnknown
  split
  · next hv =>
    obtain ⟨-, records, -⟩ := id hs
    obtain ⟨nested, fits⟩ := records b
    have none : Queue.hasEntry s.queue b = false := by
      rw [hs.hasEntry]
      exact PageBuffer.hasEntry_of_unknown nested fits hv
    rw [freeBuffer_queue, none]
    rfl
  · rfl

theorem coherent.endOperation_queue (hs : s.coherent) (h : ∀ b, o.kind = .pageFetch b → s.fetchOnLink b = false) :
    (s.endOperation o).queue = s.queue := by
  cases hk : o.kind with
  | pageFetch b =>
    obtain ⟨-, fetched, -⟩ := s.fetchEnded_frame b
    obtain ⟨-, -, filled, -⟩ := (s.fetchEnded b).fillEnded_frame b
    rw [s.endOperation_of_fetch hk, ((hs.fetchEnded (h b hk)).fillEnded b).freeIfUnknown_queue, filled, fetched]
  | program c | checkRead c =>
    rw [State.endOperation, hk]
    dsimp only
    split <;> simp
  | streamRead | descriptorRead | poll | probeSelect => simp [State.endOperation, hk]

theorem foldl_endOperation_queue {l : List Operation} (hs : s.coherent)
    (h : ∀ o ∈ l, ∀ b, o.kind = .pageFetch b → s.fetchOnLink b = false) :
    (l.foldl (fun s o => s.endOperation o) s).queue = s.queue := by
  induction l generalizing s with
  | nil => rfl
  | cons o l ih =>
    have first := h o List.mem_cons_self
    refine (ih (hs.endOperation first) fun o' ho' b hb => ?_).trans (hs.endOperation_queue first)
    have before := h o' (List.mem_cons_of_mem o ho') b hb
    by_contra hl
    rw [fetchOnLink_of_endOperation (Bool.eq_true_of_not_eq_false hl)] at before
    cases before

theorem coherent.endOperations_queue (hs : s.coherent) (d : Fin 4) : (s.endOperations d).queue = s.queue := by
  refine foldl_endOperation_queue hs fun o ho b hb => (hs.but b).fetchOnLink_of_fetchRequested ?_
  rw [fetchRequested, List.any_eq_true]
  exact ⟨o, (List.mem_filter.mp ho).1, decide_eq_true hb⟩

/-! ### The Port and the stream -/

/-- A burst that fails changes nothing of the Port where no demand read waits on it. -/
theorem burstFailed_port (h : s.waiting = some .streamByte → s.stream.burst = none) (x : Stall) :
    (s.burstFailed x).port = s.port := by
  unfold burstFailed
  split
  · rfl
  · next hx =>
    have unanswered : s.waiting ≠ some .streamByte := fun hw => by
      rw [h hw] at hx
      cases hx
    dsimp only
    rw [if_neg unanswered]
    simp

/-- An operation that ends unstarted changes nothing of the Port, unless the access in progress is held on it. -/
theorem endOperation_port (fetch : ∀ c, o.kind = .pageFetch c → s.waiting ≠ some (.fetch c))
    (byte : o.kind = .streamRead → s.waiting = some .streamByte → s.stream.burst = none) :
    (s.endOperation o).port = s.port := by
  cases hk : o.kind with
  | pageFetch c =>
    obtain ⟨filled, -⟩ := (s.fetchEnded c).fillEnded_frame c
    have ended (u : State) : (u.freeIfUnknown c).port = u.port := by simp
    rw [s.endOperation_of_fetch hk, ended, filled, fetchEnded, if_neg (fetch c hk)]
    rfl
  | streamRead =>
    rw [endOperation, hk]
    exact (s.withdraw .streamRead o.device).burstFailed_port (byte hk) .device
  | program c | checkRead c =>
    rw [endOperation, hk]
    dsimp only
    split <;> simp
  | descriptorRead | poll | probeSelect => simp [endOperation, hk]

theorem endOperations_port (fetch : ∀ c, s.waiting ≠ some (.fetch c)) (byte : s.waiting ≠ some .streamByte) (d : Fin 4) :
    (s.endOperations d).port = s.port := by
  refine foldl_invariant (P := fun u : State => u.port = s.port) rfl fun u o hu => ?_
  have waits := waiting_congr hu
  exact (endOperation_port (fun c _ => waits ▸ fetch c) fun _ hw => absurd (waits ▸ hw) byte).trans hu

/-- With no burst on its way there is none to fail, and no other operation's end writes the stream. -/
theorem endOperation_stream (h : o.kind = .streamRead → s.stream.burst = none) : (s.endOperation o).stream = s.stream := by
  cases hk : o.kind with
  | pageFetch c =>
    obtain ⟨-, -, fetched, -⟩ := s.fetchEnded_frame c
    obtain ⟨-, -, -, filled, -⟩ := (s.fetchEnded c).fillEnded_frame c
    have ended (u : State) : (u.freeIfUnknown c).stream = u.stream := by simp
    rw [s.endOperation_of_fetch hk, ended, filled, fetched]
  | streamRead =>
    have idle : (s.withdraw .streamRead o.device).stream.burst = none := h hk
    rw [endOperation, hk]
    dsimp only
    rw [burstFailed, idle]
    rfl
  | program c | checkRead c =>
    rw [endOperation, hk]
    dsimp only
    split <;> simp
  | descriptorRead | poll | probeSelect => simp [endOperation, hk]

theorem endOperations_stream (h : s.stream.burst = none) (d : Fin 4) : (s.endOperations d).stream = s.stream :=
  foldl_invariant (P := fun u : State => u.stream = s.stream) rfl fun u o hu =>
    (endOperation_stream fun _ => by rw [hu, h]).trans hu

/-! ### The access that is refused (R6, R8, R123) -/

/-- The access `a` is refused with the cause `c`, and captured in the fault record `f` (R8, R10). -/
structure Refused (a : Access) (c : Cause) (f : FaultRecord) (u : State) : Prop where
  access : u.port.access = some { a with status := .done (.refused c) }
  fault : u.port.fault = f.capture a c
  flag : u.flagSet .accessFault = true

section Refused
variable {a : Access} {w : Wait} {c : Cause} {f : FaultRecord}

theorem refuse_refused (ha : s.port.access = some a) (hw : a.status = .pending w) (c : Cause) :
    Refused a c s.port.fault (s.refuse c) := by
  rw [refuse_of_pending ha hw]
  exact ⟨rfl, rfl, flagSet_raise s .accessFault⟩

theorem Refused.idle (h : Refused a c f u) : u.waiting = none := waiting_of_done h.access rfl

/-- A refusal stands through all that leaves a Port alone that does not wait. -/
theorem Refused.mono {keeps : Bool} (h : Refused a c f u) (ht : u.LeavesAlone .commits keeps t) : Refused a c f t := by
  obtain ⟨access, -, -, kept⟩ := ht.port h.idle nofun
  obtain ⟨fault, -⟩ := kept nofun
  obtain ⟨-, -, -, flags⟩ := ht.configuration nofun
  exact ⟨access.trans h.access, fault.trans h.fault, flags _ h.flag⟩

theorem Refused.conclude (h : Refused a c f u) (hdone : u.startup.phase = .done) (before : State) :
    Refused a c f (u.conclude before) :=
  h.mono (conclude_leavesAlone (keeps := true) hdone before)

theorem burstFailed_refused {x : Burst} (ha : s.port.access = some a) (hw : a.status = .pending .streamByte)
    (hx : s.stream.burst = some x) (y : Stall) : Refused a y.cause s.port.fault (s.burstFailed y) := by
  have waits : s.waiting = some .streamByte := waiting_of_pending ha hw
  have refused (z : Stream) : Refused a y.cause s.port.fault ((s.setStream z).refuse y.cause) :=
    refuse_refused (s := s.setStream z) ha hw y.cause
  unfold burstFailed
  rw [hx]
  dsimp only
  rw [if_pos waits]
  exact (refused _).mono (planRefill_leavesAlone (keeps := true) _)

/-- The operation `o` is the one that the access `a` is held on. -/
def heldOn (s : State) (a : Access) (o : Operation) : Prop :=
  (∃ b, a.status = .pending (.fetch b) ∧ o.kind = .pageFetch b) ∨
    (a.status = .pending .streamByte ∧ o.kind = .streamRead ∧ s.stream.burst ≠ none)

theorem endOperation_refused (ha : s.port.access = some a) (h : s.heldOn a o) :
    Refused a .device s.port.fault (s.endOperation o) := by
  rcases h with ⟨b, hw, hk⟩ | ⟨hw, hk, hx⟩
  · have waits : s.waiting = some (.fetch b) := waiting_of_pending ha hw
    have refused : Refused a .device s.port.fault (s.fetchEnded b) := by
      rw [fetchEnded, if_pos waits]
      exact refuse_refused (s := s.cancelFetch b) ha hw .device
    rw [s.endOperation_of_fetch hk]
    refine (refused.mono (keeps := true) ?_).mono (freeIfUnknown_leavesAlone _ b)
    unfold fillEnded
    split
    · exact endDirty_leavesAlone _ b
    · exact .refl _ _ _
  · obtain ⟨x, hx⟩ := Option.ne_none_iff_exists'.mp hx
    rw [endOperation, hk]
    exact burstFailed_refused (s := s.withdraw .streamRead o.device) ha hw hx .device

/-- An access stays held on what it was when an operation ends that it is not held on. -/
theorem heldOn_endOperation {o' : Operation} (ha : s.port.access = some a) (ho : ¬ s.heldOn a o) (h : s.heldOn a o') :
    (s.endOperation o).port = s.port ∧ (s.endOperation o).heldOn a o' := by
  have waits {w : Wait} (hw : s.waiting = some w) : a.status = .pending w := by
    unfold State.waiting at hw
    rw [ha] at hw
    dsimp only at hw
    split at hw
    · next hs =>
      cases hw
      exact hs
    · cases hw
  have port : (s.endOperation o).port = s.port := by
    refine endOperation_port (fun c hk hw => ho (.inl ⟨c, waits hw, hk⟩)) fun hk hw => ?_
    by_contra hx
    exact ho (.inr ⟨waits hw, hk, hx⟩)
  refine ⟨port, h.imp_right fun ⟨hw, hk, hx⟩ => ⟨hw, hk, ?_⟩⟩
  rw [endOperation_stream fun hs => absurd (.inr ⟨hw, hs, hx⟩) ho]
  exact hx

/-- A read held on an operation among those that end unstarted is refused with the cause DEVICE (R47, R123, R141). -/
theorem foldl_endOperation_refused {l : List Operation} (ha : s.port.access = some a) (hl : o ∈ l) (h : s.heldOn a o) :
    Refused a .device s.port.fault (l.foldl (fun s o => s.endOperation o) s) := by
  induction l generalizing s with
  | nil => cases hl
  | cons o' l ih =>
    by_cases ho' : s.heldOn a o'
    · exact (endOperation_refused ha ho').mono (.foldl (fun u o => u.endOperation_leavesAlone o) l _)
    · obtain ⟨port, held⟩ := heldOn_endOperation ha ho' h
      have rest : o ∈ l := (List.mem_cons.mp hl).resolve_left fun he => ho' (he ▸ h)
      rw [← port]
      exact ih (by rw [port, ha]) rest held

end Refused

end State
end Sys2Proof.Machine
end

section
/-! PROOFS. The program timeout (R96, R100, R121): O29. -/
namespace Sys2Proof.Machine

/-- The access waits on the entry of `b`: held as a cross-generation write, or as a write-through access (R76, R78). -/
abbrev Access.WaitsOnEntry (a : Access) (b : Fin 16) : Prop :=
  a.status = .pending (.crossGeneration b) ∨ a.status = .pending (.entry b)

namespace State

variable {s t u : State} {b : Fin 16} {d : Fin 4} {a : Access}

/-! ### Who waits on a FAILED buffer (R54, R77, R79) -/

/-- An access that waits on the entry of a FAILED buffer is refused BUFFER_FAILED (R77, R79). -/
theorem conclude_refuses_failed (hdone : s.startup.phase = .done) (ha : s.port.access = some a) (hw : a.WaitsOnEntry b)
    (entry : Queue.hasEntry s.queue b = true)
    (failed : s.buffers[b].state = .failed) (before : State) :
    Refused a .bufferFailed s.port.fault (s.conclude before) := by
  have isFailed : s.isFailed b = true := decide_eq_true failed
  have drawn : s.settleAccess = some (s.refuse .bufferFailed) := by
    unfold settleAccess
    rcases hw with hw | hw
    · rw [waiting_of_pending ha hw]
      simp [settleHeldWrite, entry, isFailed]
    · rw [waiting_of_pending ha hw]
      simp [settleWriteThrough, entry, isFailed]
  have refused : Refused a .bufferFailed s.port.fault (s.refuse .bufferFailed) := by
    rcases hw with hw | hw
    all_goals exact refuse_refused ha hw _
  rw [conclude_of_consequence (consequence_of_access drawn)]
  exact refused.conclude (by simpa using hdone) before

/-- Where every buffer is FAILED, none can be taken and none commits: the pending flush and the wait for a buffer are all that
is left to draw. -/
theorem consequence_of_allFailed (failed : ∀ b : Fin 16, s.buffers[b].state = .failed) (hw : s.waiting = some .buffer) :
    s.consequence = if s.flushComplete then some s.completeFlush else some (s.refuse .noBuffer) := by
  have access : s.settleAccess = none := by rw [settleAccess, hw]
  have fill : s.settleFill = none := settleFill_eq_none_iff.mpr fun _ b => by
    rw [engineWaits, failed b]
    rfl
  have queue : s.settleQueue = none := settleQueue_eq_none_iff.mpr fun b _ => by
    have (x : DeviceState) : s.startable x b = false := Bool.eq_false_iff.mpr fun h => by
      have dirty := startable_dirty h
      rw [failed b] at dirty
      cases dirty
    rw [eligible, meetsButForDevice, this, this]
    rfl
  have each (b : Fin 16) : s.buffers[b.val].state = .failed := failed b
  have victim : s.victim = none := by simp [State.victim, each]
  have test : s.noBufferTest = true := noBufferTest_iff.mpr fun b => .inl (failed b)
  rw [consequence, access, fill, queue, settleFlush, settleBufferWait, hw, victim, test]
  split <;> rfl

/-- An access that waits for a buffer is refused NO_BUFFER where every buffer is FAILED (R54). -/
theorem conclude_refuses_noBuffer (hdone : s.startup.phase = .done) (ha : s.port.access = some a)
    (hw : a.status = .pending .buffer) (failed : ∀ b : Fin 16, s.buffers[b].state = .failed) (before : State) :
    Refused a .noBuffer s.port.fault (s.conclude before) := by
  have waits : s.waiting = some .buffer := waiting_of_pending ha hw
  have unflushed (u : State) (hu : u.port = s.port) (done : u.startup.phase = .done) (same : u.buffers = s.buffers)
      (flush : u.flushComplete = false) : Refused a .noBuffer s.port.fault (u.conclude before) := by
    have next := consequence_of_allFailed (s := u) (by rwa [same]) (by rwa [waiting_congr hu])
    rw [flush, if_neg Bool.false_ne_true] at next
    rw [conclude_of_consequence next, ← hu]
    exact (refuse_refused (hu ▸ ha) hw .noBuffer).conclude (by simpa using done) before
  cases flush : s.flushComplete with
  | false => exact unflushed s rfl hdone rfl flush
  | true =>
    have next := consequence_of_allFailed failed waits
    rw [flush, if_pos rfl] at next
    rw [conclude_of_consequence next]
    refine unflushed _ rfl hdone rfl ?_
    exact Bool.and_eq_false_iff.mpr (.inl (Queue.flushPending_unmark s.queue))

/-! ### The program timeout (R96, R100, R121) -/

theorem exec_programTimeout {deadline : Time} (hr : s.resetHeld = false) (hd : s.devices[d].state = .programming)
    (ht : s.devices[d].timeout = some deadline) :
    exec (.programTimeout d) s = .next (((s.advanceTo deadline).programTimedOut d).conclude s) := by
  simp only [exec, execProgramTimeout, act_of_released hr, ht, hd, if_true]

/-- The device is STUCK and the buffer in BUSY FAILED, before the operations of the device are ended. -/
def timeoutFailed (s : State) (d : Fin 4) (b : Fin 16) : State := (s.deviceStuck d).becomeFailed b

theorem programTimedOut_of_busy (h : s.committingIn d .busy = some b) :
    s.programTimedOut d = (s.timeoutFailed d b).endOperations d := by
  have stuck : (s.deviceStuck d).committingIn d .busy = some b := h
  unfold programTimedOut
  dsimp only
  rw [h]
  rfl

/-- What the timeout leaves of the state: the record of the buffer in BUSY as a failure leaves it, the others' fill flags, the
commit queue, the devices and the flags (R96, R100, R121). -/
structure TimedOut (d : Fin 4) (b : Fin 16) (s t : State) : Prop where
  done : t.startup.phase = .done
  buffer : (s.buffers[b].ended .failed).SameButFill t.buffers[b]
  others : ∀ c : Fin 16, s.buffers[c].state = .failed → t.buffers[c].state = .failed
  queue : t.queue = s.queue
  port : (∀ c, s.waiting ≠ some (.fetch c)) → s.waiting ≠ some .streamByte → t.port = s.port
  devices : t.devices = s.devices.set d
    { s.devices[d] with state := .stuck, counter := none, timeout := none, pollDue := some (s.now + 160000) }
  now : t.now = s.now
  flags : t.flagSet .deviceFault = true ∧ t.flagSet .commitFail = true

/-- A FAILED buffer is so when the operations of a device have been ended, with what its record says but for its fill flag. -/
theorem coherent.failed_endOperations (hs : s.coherent) (hb : s.buffers[b].state = .failed) (d : Fin 4) :
    s.buffers[b].SameButFill (s.endOperations d).buffers[b] :=
  endOperations_record (by rw [hb]; exact nofun) (hs.known (by rw [hb]; rfl)) d

theorem programTimedOut_timedOut (hdone : s.startup.phase = .done) (hs : s.coherent)
    (h : s.committingIn d .busy = some b) : TimedOut d b s (s.programTimedOut d) := by
  have failed : (s.timeoutFailed d b).coherent :=
    ((deviceStuck_samePool s d).coherent hs).becomeFailed (committingIn_eq_some h)
  have record : (s.timeoutFailed d b).buffers[b] = s.buffers[b].ended .failed := becomeFailed_buffer _ b
  have others : s.SameBuffersBut b (s.timeoutFailed d b) := becomeFailed_sameBuffersBut (s.deviceStuck d) b
  have fault : (s.timeoutFailed d b).flagSet .deviceFault = true :=
    (becomeFailed_samePortMoreFlags _ b).2 _ (flagSet_raise _ .deviceFault)
  have commitFail : (s.timeoutFailed d b).flagSet .commitFail = true := flagSet_raise _ .commitFail
  have kept : (s.timeoutFailed d b).queue = s.queue ∧ (s.timeoutFailed d b).port = s.port ∧
      (s.timeoutFailed d b).startup = s.startup ∧ (s.timeoutFailed d b).now = s.now ∧ (s.timeoutFailed d b).devices =
        s.devices.set d
          { s.devices[d] with state := .stuck, counter := none, timeout := none, pollDue := some (s.now + 160000) } := by
    simp [timeoutFailed, deviceStuck, setDevice]
    rfl
  obtain ⟨queue, port, startup, now, devices⟩ := kept
  rw [programTimedOut_of_busy h]
  generalize s.timeoutFailed d b = v at *
  have alone : v.LeavesAlone .commits false (v.endOperations d) := v.endOperations_leavesAlone d
  obtain ⟨-, -, -, flags⟩ := alone.configuration nofun
  have waits := waiting_congr port
  refine ⟨by rw [alone.phase, startup, hdone], ?_, fun c hc => ?_, (failed.endOperations_queue d).trans queue,
    fun fetch byte => (endOperations_port (by rwa [waits]) (by rwa [waits]) d).trans port, by simpa using devices,
    by simpa using now, flags _ fault, flags _ commitFail⟩
  · rw [← record]
    exact failed.failed_endOperations (by rw [record]; rfl) d
  · have before : v.buffers[c].state = .failed := by
      by_cases hb : c = b
      · rw [hb, record]
        rfl
      · rw [others c hb, hc]
    rw [failed.failed_endOperations before d]
    exact before

end State

/-- Settles O29: after the timeout the buffer in BUSY is FAILED, which the ends of the device's operations and the consequences of
the step leave so; the access that waits on it, or for a buffer where all are FAILED, is refused as the first or second of these. -/
theorem programTimeoutFailsTheBuffer : Obligations.ProgramTimeoutFailsTheBuffer := by
  intro d deadline b s ⟨hr, hdone⟩ hs hd ht hb
  have timed : State.TimedOut d b (s.advanceTo deadline) ((s.advanceTo deadline).programTimedOut d) :=
    State.programTimedOut_timedOut hdone ((State.advanceTo_samePool s deadline).coherent hs) hb
  generalize hu : (s.advanceTo deadline).programTimedOut d = u at timed
  obtain ⟨done, buffer, others, queue, port, devices, now, fault, commitFail⟩ := timed
  have committing := State.committingIn_eq_some hb
  have failed : u.buffers[b].state = .failed := by rw [buffer]; rfl
  have entry : Queue.hasEntry u.queue b = true := by
    rw [queue]
    exact (hs.hasEntry b).trans (by rw [committing]; rfl)
  have samePort {w : Option Wait} (hw : s.waiting = w) (fetch : ∀ c, w ≠ some (.fetch c)) (byte : w ≠ some .streamByte) :
      u.port = s.port :=
    port (fun c hc => fetch c (hw.symm.trans hc)) fun hc => byte (hw.symm.trans hc)
  obtain ⟨failed', attempts, entry'⟩ := State.conclude_keepsFailed done s failed entry
  have alone : u.LeavesAlone .commits true (u.conclude s) := State.conclude_leavesAlone done s
  obtain ⟨-, -, -, flags⟩ := alone.configuration nofun
  have clock : (u.conclude s).now = max s.now deadline := (u.conclude_now s).trans now
  refine ⟨_, hu ▸ State.exec_programTimeout hr hd ht, clock, ?_, failed', by rw [attempts, buffer]; rfl, fun hw => ?_, entry',
    flags _ fault, flags _ commitFail, fun a ha => ⟨fun hw => ?_, fun hw all => ?_⟩⟩
  · rw [State.conclude_devices done, devices, vector_set_fin, if_pos rfl, clock]
    rfl
  · have idle : u.waiting = none := (State.waiting_congr (samePort hw nofun nofun)).trans hw
    have record := State.conclude_unchanged idle done (by rw [failed]; exact nofun) (by rw [State.engineWaits, failed]; rfl) s
    rw [record, buffer]
    rfl
  · have same : u.port = s.port := by
      rcases hw with hw | hw
      all_goals exact samePort (State.waiting_of_pending ha hw) nofun nofun
    have refused := State.conclude_refuses_failed done (by rw [same, ha]) hw entry failed s
    rw [same] at refused
    exact ⟨refused.access, refused.fault, refused.flag⟩
  · have same : u.port = s.port := samePort (State.waiting_of_pending ha hw) nofun nofun
    refine (State.conclude_refuses_noBuffer done (by rw [same, ha]) hw (fun c => ?_) s).access
    by_cases hc : c = b
    · rw [hc, failed]
    · exact others c (all c hc)

end Sys2Proof.Machine
end

section
/-! PROOFS. An entry that is due: what the accesses resolved in a step, and the removal of other entries, leave of it (R38, R62, R64,
R67, R68). -/
namespace Sys2Proof.Machine

namespace Queue

variable {q : List QueueEntry} {b c : Fin 16}

/-- The entry of `b` has an own cause, and stands in the front generation (R67, R69, R71). -/
def Due (q : List QueueEntry) (b : Fin 16) : Prop :=
  (∃ e ∈ q, e.isFor b = true ∧ e.hasOwnCause = true) ∧ markerBefore q b = false

theorem due_iff : Due q b ↔ (pushed q b = true ∨ aged q b = true) ∧ markerBefore q b = false := by
  refine and_congr_left fun _ => ?_
  simp only [pushed, aged, List.any_eq_true, ← exists_or, ← and_or_left]
  refine exists_congr fun e => and_congr_right fun _ => ?_
  cases e with
  | buffer b' aged push =>
    simp only [QueueEntry.isFor_buffer, QueueEntry.hasOwnCause, Bool.and_eq_true, Bool.or_eq_true, ← and_or_left]
    exact and_congr_right fun _ => or_comm
  | marker f => simp

theorem Due.hasEntry (h : Due q b) : hasEntry q b = true := by
  obtain ⟨⟨e, he, hfor, -⟩, -⟩ := h
  exact List.any_eq_true.mpr ⟨e, he, hfor⟩

/-- What is appended stands before no entry. -/
theorem markerBefore_concat_of_entry (h : Queue.hasEntry q b = true) (e : QueueEntry) :
    markerBefore (q ++ [e]) b = markerBefore q b := by
  induction q with
  | nil => cases h
  | cons e' q ih =>
    rw [List.cons_append, markerBefore_cons, markerBefore_cons]
    cases he : e'.isFor b with
    | true => rfl
    | false => rw [ih (by simpa [Queue.hasEntry, he] using h)]

theorem Due.concat (h : Due q b) (e : QueueEntry) : Due (q ++ [e]) b := by
  have front := markerBefore_concat_of_entry h.hasEntry e
  obtain ⟨⟨e', he', own⟩, hm⟩ := h
  exact ⟨⟨e', List.mem_append_left _ he', own⟩, front.trans hm⟩

theorem Due.barrier (h : Due q b) : Due (barrier q) b := by
  rw [barrier_eq]
  split
  · exact h.concat _
  · exact h

theorem Due.givePush (h : Due q b) (c : Fin 16) : Due (givePush q c) b := by
  obtain ⟨⟨e, he, hfor, own⟩, hm⟩ := h
  refine ⟨⟨e.pushFor c, List.mem_map_of_mem he, ?_⟩, (markerBefore_map (QueueEntry.buffer?_pushFor c) q b).trans hm⟩
  cases e with
  | buffer b' aged push =>
    refine ⟨hfor, ?_⟩
    simp only [QueueEntry.hasOwnCause, QueueEntry.pushFor, Bool.or_eq_true] at own ⊢
    exact own.imp_right .inl
  | marker f => cases hfor

theorem due_congr {q' : List QueueEntry} (h : unmark q' = unmark q) : Due q' b ↔ Due q b := by
  rw [due_iff, due_iff, pushed_congr h, aged_congr h, markerBefore_congr h]

/-- Merging keeps each buffer entry. -/
theorem exists_mem_mergeMarkers {p : QueueEntry → Bool} (hp : ∀ f, p (.marker f) = false) (h : ∃ e ∈ q, p e = true) :
    ∃ e ∈ mergeMarkers q, p e = true := by
  have count : (mergeMarkers q).countP p = q.countP p := by
    clear h
    induction q with
    | nil => rfl
    | cons e q ih => rw [mergeMarkers, List.foldr_cons, ← mergeMarkers, countP_consMerged hp, List.countP_cons, ih,
        List.countP_cons]
  rw [← List.countP_pos_iff] at h ⊢
  rwa [count]

/-- The removal of another entry leaves an entry due. -/
theorem Due.removed (h : Due q b) (hc : b ≠ c) : Due (normalise (without q c)) b := by
  obtain ⟨⟨e, he, hfor, own⟩, hm⟩ := h
  have kept : e ∈ without q c := by
    refine List.mem_filter.mpr ⟨he, ?_⟩
    cases e with
    | buffer b' aged push =>
      have hb : b' = b := by simpa using hfor
      simp [hb, hc]
    | marker f => cases hfor
  obtain ⟨-, -, -, merged⟩ := mergeMarkers_spec (without q c)
  have front : markerBefore (mergeMarkers (without q c)) b = false := (merged b).trans (markerBefore_without hc hm)
  obtain ⟨e, he, both⟩ := exists_mem_mergeMarkers (p := fun e => e.isFor b && e.hasOwnCause) (fun _ => rfl)
    ⟨e, kept, by rw [hfor, own]; rfl⟩
  have same : normalise (without q c) = mergeMarkers (without q c) := by
    rw [normalise]
    cases hq : mergeMarkers (without q c) with
    | nil => rfl
    | cons e' rest =>
      cases e' with
      | buffer => rfl
      | marker f =>
        rw [hq] at front
        cases front
  rw [same]
  exact ⟨⟨e, he, Bool.and_eq_true_iff.mp both⟩, front⟩

end Queue

/-! ### What an access resolved again spares (R38, R39, R49, R62) -/

/-- DIRTY or FAILED: with an entry, and in no commit. -/
abbrev PageBuffer.HoldsBytes (x : PageBuffer) : Prop := x.state = .dirty ∨ x.state = .failed

/-- A buffer's record changes from `x` to `y` as an access does it where the device `d` is ABSENT: DIRTY and FAILED stay, none
becomes COMMITTING, and none becomes CLEAN for a page of `d`. -/
structure PageBuffer.SparedBy (d : Fin 4) (x y : PageBuffer) : Prop where
  entry : x.HoldsBytes → y.state = x.state ∧ y.attempts = x.attempts ∧ y.tag = x.tag
  committing : y.state = .committing → x.state = .committing ∧ y.tag = x.tag
  clean : y.state = .clean → y.tag.map (·.device) = some d → x.state = .clean ∧ y.tag = x.tag

namespace PageBuffer.SparedBy

variable {d : Fin 4} {x y z : PageBuffer}

theorem of_same (h : y.state = x.state ∧ y.attempts = x.attempts ∧ y.tag = x.tag) : x.SparedBy d y := by
  obtain ⟨state, attempts, tag⟩ := h
  exact ⟨fun _ => ⟨state, attempts, tag⟩, fun h => ⟨state ▸ h, tag⟩, fun h _ => ⟨state ▸ h, tag⟩⟩

theorem refl (d : Fin 4) (x : PageBuffer) : x.SparedBy d x := of_same ⟨rfl, rfl, rfl⟩

theorem trans (h : x.SparedBy d y) (h' : y.SparedBy d z) : x.SparedBy d z where
  entry hx := by
    obtain ⟨state, attempts, tag⟩ := h.entry hx
    obtain ⟨state', attempts', tag'⟩ := h'.entry (state.symm ▸ hx : y.state = .dirty ∨ y.state = .failed)
    exact ⟨state'.trans state, attempts'.trans attempts, tag'.trans tag⟩
  committing hz := by
    obtain ⟨hy, tag'⟩ := h'.committing hz
    obtain ⟨hx, tag⟩ := h.committing hy
    exact ⟨hx, tag'.trans tag⟩
  clean hz hd := by
    obtain ⟨hy, tag'⟩ := h'.clean hz hd
    obtain ⟨hx, tag⟩ := h.clean hy (tag' ▸ hd)
    exact ⟨hx, tag'.trans tag⟩

end PageBuffer.SparedBy

namespace State

variable {s t u : State} {b c : Fin 16} {d : Fin 4}

/-- Records and entries as an access leaves them where the device `d` is ABSENT. -/
structure Spares (d : Fin 4) (s t : State) : Prop where
  buffers : ∀ b : Fin 16, s.buffers[b].SparedBy d t.buffers[b]
  entries : ∀ b : Fin 16, s.buffers[b].HoldsBytes → Queue.Due s.queue b → Queue.Due t.queue b

theorem Spares.of_frame (h : t.buffers = s.buffers ∧ t.queue = s.queue) : s.Spares d t := by
  obtain ⟨buffers, queue⟩ := h
  exact ⟨fun b => buffers ▸ .refl d _, fun b _ => queue ▸ id⟩

theorem Spares.of_queue (hb : t.buffers = s.buffers) (hq : ∀ b, Queue.Due s.queue b → Queue.Due t.queue b) : s.Spares d t :=
  ⟨fun _ => hb ▸ .refl d _, fun b _ => hq b⟩

theorem Spares.trans (h : s.Spares d t) (h' : t.Spares d u) : s.Spares d u where
  buffers b := (h.buffers b).trans (h'.buffers b)
  entries c hb hq := by
    obtain ⟨state, -⟩ := (h.buffers c).entry hb
    have held : t.buffers[c].HoldsBytes := by rwa [PageBuffer.HoldsBytes, state]
    exact h'.entries c held (h.entries c hb hq)

/-- The record of one buffer changes, and no other's. -/
theorem Spares.of_one (others : s.SameBuffersBut c t) (self : s.buffers[c].SparedBy d t.buffers[c])
    (entries : ∀ b : Fin 16, s.buffers[b].HoldsBytes → Queue.Due s.queue b → Queue.Due t.queue b) : s.Spares d t := by
  refine ⟨fun b => ?_, entries⟩
  by_cases h : b = c
  · exact h ▸ self
  · rw [others b h]
    exact .refl d _

theorem requestFetch_spares (s : State) (c : Fin 16) : s.Spares d (s.requestFetch c) := by
  refine .of_one (s.requestFetch_sameBuffersBut c) (.of_same ?_) fun _ _ => by simp
  rw [requestFetch_buffers]
  split <;> exact ⟨rfl, rfl, rfl⟩

/-- The buffer that an allocation takes is neither DIRTY nor FAILED (R39). -/
theorem victim_not_holdsBytes (hv : s.victim = some c) : ¬ s.buffers[c].HoldsBytes := fun h => by
  have entry := victim_hasEntry hv
  rcases h with h | h
  all_goals
    rw [h] at entry
    cases entry

theorem allocate_due (hv : s.victim = some c) (g : Tag) (b : Fin 16) (hb : s.buffers[b].HoldsBytes)
    (h : Queue.Due s.queue b) : Queue.Due (s.allocate c g).queue b := by
  have hne : b ≠ c := fun he => victim_not_holdsBytes hv (he ▸ hb)
  have freed : Queue.Due (s.freeBuffer c).queue b := by
    rw [freeBuffer_queue]
    split
    · exact h.removed hne
    · exact h
  unfold allocate
  dsimp only
  split
  · exact h
  · exact freed

theorem allocate_spares (hv : s.victim = some c) {g : Tag} (hg : g.device ≠ d) : s.Spares d (s.allocate c g) := by
  refine .of_one (s.allocate_sameBuffersBut c g) ?_ (allocate_due hv g)
  rw [allocate_buffers, if_pos rfl]
  exact ⟨fun h => absurd h (victim_not_holdsBytes hv), nofun, fun _ h => absurd (Option.some.inj h) hg⟩

theorem placeByte_due (s : State) (c : Fin 16) (e : Decode) (v : Byte) {b : Fin 16} (h : Queue.Due s.queue b) :
    Queue.Due (s.placeByte c e v).queue b := by
  rw [placeByte_queue]
  split
  · exact h.concat _
  · exact h

theorem placeByte_spares (s : State) (c : Fin 16) (e : Decode) (v : Byte) : s.Spares d (s.placeByte c e v) := by
  refine .of_one (s.placeByte_sameBuffersBut c e v) ?_ fun b _ => s.placeByte_due c e v
  rw [placeByte_buffer]
  split
  · next hc =>
    refine ⟨fun h => ?_, nofun, nofun⟩
    rcases h with h | h
    all_goals cases hc.symm.trans h
  · exact .of_same ⟨rfl, rfl, rfl⟩

/-- The buffer that a write takes is DIRTY at once, whatever its device (R49). -/
theorem allocateWritten_spares (hv : s.victim = some c) (g : Tag) (e : Decode) (v : Byte) :
    s.Spares d ((s.allocate c g).placeByte c e v) := by
  refine .of_one ((s.allocate_sameBuffersBut c g).trans (placeByte_sameBuffersBut _ c e v)) ?_
    fun b hb h => placeByte_due _ c e v (allocate_due hv g b hb h)
  rw [placeByte_buffer, allocate_buffers, if_pos rfl, if_pos rfl]
  exact ⟨fun h => absurd h (victim_not_holdsBytes hv), nofun, nofun⟩

theorem completeWatches_due (address : HostAddress) (v : Byte) (c : Fin 16) {b : Fin 16} (h : Queue.Due s.queue b) :
    Queue.Due (s.completeWatches address v c).queue b := by
  refine foldl_invariant (P := fun t : State => Queue.Due t.queue b) h fun t n ht => ?_
  unfold completeWatch
  dsimp only
  repeat' split
  · exact (ht.givePush c).barrier
  · exact ht.barrier
  · exact ht.givePush c
  all_goals exact ht

theorem finishWrite_spares (s : State) (c : Fin 16) (address : HostAddress) (e : Decode) (v : Byte) :
    s.Spares d (s.finishWrite c address e v) := by
  refine .of_queue (by simp) fun b h => ?_
  have watched := completeWatches_due address v c h
  unfold finishWrite
  dsimp only
  split
  · simpa using watched.givePush c
  · simpa using watched

/-- A read resolved again takes no buffer for a page of an ABSENT device (R46). -/
theorem resolveRead_spares (hd : s.devices[d].state = .absent) (e : Decode) : s.Spares d (s.resolveRead e) := by
  have waits (u : State) (w : Wait) : u.Spares d (u.waitOn w) := .of_frame (by simp)
  unfold resolveRead
  split
  · unfold readResident
    split
    · exact .of_frame (by simp)
    · split
      · exact .of_frame (by simp)
      · refine .trans ?_ (waits _ _)
        split
        · exact .of_frame ⟨rfl, rfl⟩
        · exact s.requestFetch_spares _
  · unfold readAbsent
    split
    · exact .of_frame (by simp)
    · next reachable =>
      split
      · exact .of_frame (by simp)
      · next hv =>
        refine (allocate_spares hv fun he => reachable ?_).trans ((requestFetch_spares _ _).trans (waits _ _))
        have device : e.device = d := he
        rw [device, unreachable, hd]
        rfl

theorem resolveWrite_spares (s : State) (address : HostAddress) (e : Decode) (v : Byte) :
    s.Spares d (s.resolveWrite address e v) := by
  unfold resolveWrite
  split
  · exact (s.placeByte_spares _ e v).trans (finishWrite_spares _ _ address e v)
  · split
    · exact .of_frame (by simp)
    · next hv => exact (allocateWritten_spares hv _ e v).trans (finishWrite_spares _ _ address e v)

theorem resolveAgain_spares (hd : s.devices[d].state = .absent) (h : s.resolveAgain = some t) : s.Spares d t := by
  unfold resolveAgain at h
  split at h
  · cases h
  · split at h
    · cases h
      exact resolveRead_spares hd _
    · cases h
      exact s.resolveWrite_spares _ _ _
    · cases h

end State

end Sys2Proof.Machine
end

section
/-! PROOFS. A device that a failed probe makes ABSENT (R87, R123, R128, R129): O33. -/
namespace Sys2Proof.Machine

/-- What an operation on each buffer brings about for its own, and leaves of the others', holds of all of them. -/
theorem foldl_finRange_forall {n : Nat} {α : Type} {f : α → Fin n → α} {P : Fin n → α → Prop}
    (own : ∀ u c, P c (f u c)) (kept : ∀ u b c, P b u → P b (f u c)) (a : α) (b : Fin n) :
    P b ((List.finRange n).foldl f a) := by
  have folded (l : List (Fin n)) (u : α) (h : b ∈ l ∨ P b u) : P b (l.foldl f u) := by
    induction l generalizing u with
    | nil => exact h.resolve_left List.not_mem_nil
    | cons c l ih =>
      refine ih _ (h.elim (fun hb => ?_) fun hu => .inr (kept u b c hu))
      rcases List.mem_cons.mp hb with rfl | hb
      · exact .inr (own u b)
      · exact .inl hb
  exact folded _ a (.inl (List.mem_finRange b))

namespace State

variable {s t u : State} {b c : Fin 16} {d : Fin 4} {a : Access}

/-! ### The device ABSENT (R128) -/

/-- The device's record says ABSENT, its probe select and poll have left the request set, and DEVICE_FAULT is raised where the
device was READY or STUCK: what stands when its operations are ended. -/
def markAbsent (s : State) (d : Fin 4) : State :=
  (((if s.devices[d].state = .absent then s else s.raise .deviceFault).withdraw .probeSelect d).withdraw .poll d).setDevice d
    { s.devices[d] with state := .absent, counter := none, pollDue := none, timeout := none, probe := none }

/-- The commits of the device have ended DIRTY as well. -/
def commitsEnded (s : State) (d : Fin 4) : State :=
  (List.finRange 16).foldl (fun s b => s.endCommitOf d b) ((s.markAbsent d).endOperations d)

theorem deviceAbsent_eq (s : State) (d : Fin 4) :
    s.deviceAbsent d = (List.finRange 16).foldl (fun s b => s.freeCleanOf d b) (s.commitsEnded d) := rfl

theorem markAbsent_frame (s : State) (d : Fin 4) : (s.markAbsent d).buffers = s.buffers ∧ (s.markAbsent d).queue = s.queue ∧
    (s.markAbsent d).port = s.port ∧ (s.markAbsent d).stream = s.stream ∧ (s.markAbsent d).startup = s.startup ∧
    (s.markAbsent d).part = s.part := by
  unfold markAbsent
  split <;> exact ⟨rfl, rfl, rfl, rfl, rfl, rfl⟩

/-- After the ends of the operations nothing is done to a Port that does not wait, and no flag cleared. -/
theorem ended_leavesAlone (s : State) (d : Fin 4) :
    ((s.markAbsent d).endOperations d).LeavesAlone .commits false (s.deviceAbsent d) := by
  rw [deviceAbsent_eq]
  exact (LeavesAlone.foldl (fun u b => u.endCommitOf_leavesAlone d b) _ _).trans
    (.foldl (fun u b => u.freeCleanOf_leavesAlone d b) _ _)

theorem markAbsent_leavesAlone (s : State) (d : Fin 4) : (s.markAbsent d).LeavesAlone .commits false (s.deviceAbsent d) :=
  (endOperations_leavesAlone _ d).trans (s.ended_leavesAlone d)

theorem deviceAbsent_phase (s : State) (d : Fin 4) : (s.deviceAbsent d).startup.phase = s.startup.phase := by
  obtain ⟨-, -, -, -, startup, -⟩ := s.markAbsent_frame d
  rw [(s.markAbsent_leavesAlone d).phase, startup]

/-- DEVICE_FAULT is raised where the device was present (R128). -/
theorem deviceAbsent_fault (h : s.devices[d].state ≠ .absent) : (s.deviceAbsent d).flagSet .deviceFault = true := by
  obtain ⟨-, -, -, flags⟩ := (s.markAbsent_leavesAlone d).configuration nofun
  refine flags _ ?_
  unfold markAbsent
  rw [if_neg h]
  exact flagSet_raise s .deviceFault

/-- A read held on an operation of the device that is in the request set is refused (R47, R123, R141). -/
theorem deviceAbsent_refused {o : Operation} (ha : s.port.access = some a) (ho : o ∈ s.requests) (hd : o.device = d)
    (h : s.heldOn a o) : Refused a .device s.port.fault (s.deviceAbsent d) := by
  obtain ⟨-, -, port, stream, -⟩ := s.markAbsent_frame d
  have listed : o ∈ (s.markAbsent d).requests := by
    have kinds : o.kind ≠ .probeSelect ∧ o.kind ≠ .poll := by
      rcases h with ⟨b, -, hk⟩ | ⟨-, hk, -⟩
      all_goals
        rw [hk]
        exact ⟨nofun, nofun⟩
    unfold markAbsent
    split <;> simp [withdraw, ho, kinds]
  have held : (s.markAbsent d).heldOn a o := by
    rw [heldOn, stream]
    exact h
  have refused : Refused a .device (s.markAbsent d).port.fault ((s.markAbsent d).endOperations d) :=
    foldl_endOperation_refused (by rw [port, ha]) (List.mem_filter.mpr ⟨listed, decide_eq_true hd⟩) held
  rw [port] at refused
  exact refused.mono (s.ended_leavesAlone d)

/-! ### No CLEAN buffer of the device is left (R128) -/

/-- No CLEAN buffer stands for a page of the device. -/
def NoCleanOf (d : Fin 4) (s : State) : Prop := ∀ b : Fin 16, s.buffers[b].state = .clean → s.deviceOfBuffer b ≠ some d

theorem deviceAbsent_noCleanOf (s : State) (d : Fin 4) : (s.deviceAbsent d).NoCleanOf d := by
  have freed (u : State) (b c : Fin 16) : (u.freeCleanOf d c).buffers[b] = PageBuffer.freed ∨
      (u.freeCleanOf d c).buffers[b] = u.buffers[b] ∧ (b = c → u.buffers[b].state = .clean → u.deviceOfBuffer b ≠ some d) := by
    unfold freeCleanOf
    split
    · rw [freeBuffer_buffers]
      split
      · exact .inl rfl
      · next hb => exact .inr ⟨rfl, fun h => absurd h hb⟩
    · next h => exact .inr ⟨rfl, fun hb hc hd => h (hb ▸ ⟨hc, hd⟩)⟩
  have notClean {u : State} {b : Fin 16} (h : u.buffers[b] = PageBuffer.freed) (hc : u.buffers[b].state = .clean) :
      u.deviceOfBuffer b ≠ some d := by
    rw [h] at hc
    cases hc
  intro b
  rw [deviceAbsent_eq]
  refine foldl_finRange_forall (f := fun u c => u.freeCleanOf d c)
    (P := fun b u => u.buffers[b].state = .clean → u.deviceOfBuffer b ≠ some d)
    (fun u b hc => ?_) (fun u b c hu hc => ?_) (s.commitsEnded d) b
  · rcases freed u b b with h | ⟨h, hb⟩
    · exact notClean h hc
    · rw [deviceOfBuffer_congr (s := u) (by rw [h])]
      exact hb rfl (h ▸ hc)
  · rcases freed u b c with h | ⟨h, -⟩
    · exact notClean h hc
    · rw [deviceOfBuffer_congr (s := u) (by rw [h])]
      exact hu (h ▸ hc)

theorem NoCleanOf.spares (h : s.NoCleanOf d) (ht : s.Spares d t) : t.NoCleanOf d := fun b hc hd => by
  obtain ⟨clean, tag⟩ := (ht.buffers b).clean hc hd
  exact h b clean ((deviceOfBuffer_congr tag).symm.trans hd)

/-- A consequence on commits makes no buffer CLEAN. -/
theorem NoCleanOf.commitStep (h : s.NoCleanOf d) (ht : s.CommitStep t) : t.NoCleanOf d := fun b hc hd => by
  have commits := ht.commitsOnly
  have unentered : s.buffers[b].state.hasEntry = false := by
    rw [← (commits.buffers b).entry, hc]
    rfl
  have same := commits.idle b unentered
  exact h b (same ▸ hc) ((deviceOfBuffer_congr (by rw [same])).symm.trans hd)

/-- In service a consequence is on commits, or leaves the buffers as an access does. -/
theorem drawn_commitStep_or_spares (ht : Drawn s t) (hdone : s.startup.phase = .done) (hd : s.devices[d].state = .absent) :
    s.CommitStep t ∨ s.Spares d t := by
  cases ht with
  | resolved _ _ h => exact .inr (resolveAgain_spares hd h)
  | flushed h => exact .inl (.flushed h)
  | stopped c hs h => exact .inl (.stopped c hs h)
  | started c h => exact .inl (.started c h)
  | handedOver c h => exact .inl (.handedOver c h)
  | probed h _ => cases hdone.symm.trans h
  | startedUp h _ => rcases h with h | h <;> cases hdone.symm.trans h
  | _ => exact .inr (.of_frame (by simp))

theorem NoCleanOf.conclude (h : s.NoCleanOf d) (hdone : s.startup.phase = .done) (hd : s.devices[d].state = .absent)
    (before : State) : (s.conclude before).NoCleanOf d := by
  have settled : s.settle.NoCleanOf d ∧ s.settle.startup.phase = .done ∧ s.settle.devices[d].state = .absent := by
    refine settle_induct (P := fun u => u.NoCleanOf d ∧ u.startup.phase = .done ∧ u.devices[d].state = .absent)
      (fun u t ⟨hu, done, absent⟩ ht => ?_) ⟨h, hdone, hd⟩
    obtain ⟨startup, devices⟩ := ht.sameDevices done
    refine ⟨?_, by rw [startup, done], by rw [devices, absent]⟩
    rcases drawn_commitStep_or_spares ht done absent with ht | ht
    · exact hu.commitStep ht
    · exact hu.spares ht
  obtain ⟨settled, -⟩ := settled
  unfold State.conclude noteShort
  split
  all_goals exact settled

/-! ### The device's DIRTY buffers are handed over (R72, R87) -/

/-- In service and in RUNNING, the device `d` is ABSENT and has no COMMITTING buffer; `b` stands for a page of it, with `n` attempts
and an entry that is due, and is DIRTY, or FAILED with COMMIT_FAIL raised. -/
structure Marooned (d : Fin 4) (b : Fin 16) (n : Nat) (s : State) : Prop where
  done : s.startup.phase = .done
  running : s.part = .running
  absent : s.devices[d].state = .absent
  idle : ∀ c : Fin 16, s.buffers[c].state = .committing → s.deviceOfBuffer c ≠ some d
  device : s.deviceOfBuffer b = some d
  attempts : s.buffers[b].attempts = n
  state : s.buffers[b].state = .dirty ∨ s.buffers[b].state = .failed ∧ s.flagSet .commitFail = true
  due : Queue.Due s.queue b

variable {n : Nat}

theorem Marooned.holdsBytes (h : s.Marooned d b n) : s.buffers[b].HoldsBytes := h.state.imp_right And.left

theorem Marooned.spares {keeps : Bool} (h : s.Marooned d b n) (ht : s.Spares d t)
    (alone : s.LeavesAlone .commits keeps t) : t.Marooned d b n := by
  obtain ⟨part, -⟩ := alone.supply nofun
  obtain ⟨devices, -⟩ := alone.link (.inr (.inl rfl))
  obtain ⟨-, -, -, flags⟩ := alone.configuration nofun
  obtain ⟨state, attempts, tag⟩ := (ht.buffers b).entry h.holdsBytes
  refine ⟨alone.phase.trans h.done, part.trans h.running, by rw [devices, h.absent], fun c hc => ?_,
    (deviceOfBuffer_congr tag).trans h.device, attempts.trans h.attempts, ?_, ht.entries b h.holdsBytes h.due⟩
  · obtain ⟨committing, tag⟩ := (ht.buffers c).committing hc
    rw [deviceOfBuffer_congr tag]
    exact h.idle c committing
  · rw [state]
    exact h.state.imp_right fun ⟨failed, flag⟩ => ⟨failed, flags _ flag⟩

/-- No entry of an ABSENT device starts a commit (R71). -/
theorem not_eligible_of_absent (hd : s.devices[d].state = .absent) (hc : s.eligible c = true) : s.deviceOfBuffer c ≠ some d :=
  fun h => by
    obtain ⟨e, he, -, -, -, state, -⟩ := startable_iff.mp hc
    cases he.symm.trans h
    cases hd.symm.trans state

theorem Marooned.commitStep (h : s.Marooned d b n) (ht : s.CommitStep t) : t.Marooned d b n := by
  have commits := ht.commitsOnly
  have keeps := commits.buffers b
  have idle (c : Fin 16) (hc : t.buffers[c].state = .committing) : t.deviceOfBuffer c ≠ some d := by
    rw [deviceOfBuffer_congr (commits.buffers c).tag]
    rcases ht.committing hc with hc | hc
    · exact h.idle c hc
    · exact not_eligible_of_absent h.absent hc
  have device : t.deviceOfBuffer b = some d := (deviceOfBuffer_congr keeps.tag).trans h.device
  refine ⟨by rw [commits.startup, h.done], by rw [commits.part, h.running], by rw [commits.devices, h.absent], idle, device,
    keeps.attempts.trans h.attempts, ?_, (Queue.due_congr commits.queue).mpr h.due⟩
  rcases h.state with dirty | ⟨failed, flag⟩
  · rcases ht.unsaved_or_handedOver (.inl dirty) with (dirty | committing) | ⟨-, handedOver⟩
    · exact .inl dirty
    · exact absurd device (idle b committing)
    · subst handedOver
      exact .inr ⟨by rw [becomeFailed_buffer], flagSet_raise _ _⟩
  · refine .inr ⟨?_, commits.flags _ flag⟩
    rw [ht.unchanged (by rw [failed]; exact nofun) (by rw [engineWaits, failed]; rfl), failed]

theorem Marooned.drawn (h : s.Marooned d b n) (ht : Drawn s t) : t.Marooned d b n := by
  rcases drawn_commitStep_or_spares ht h.done h.absent with step | spares
  · exact h.commitStep step
  · exact h.spares (keeps := true) spares (drawn_leavesAlone ht h.done)

theorem Marooned.noteShort (h : s.Marooned d b n) (before : State) : (s.noteShort before).Marooned d b n := by
  unfold State.noteShort
  split
  · exact h.spares (keeps := true) (.of_frame ⟨rfl, rfl⟩) (s.raise_leavesAlone _)
  · exact h

/-- What is settled has handed over the entry (R72, R73, R87). -/
theorem Marooned.failed (h : s.Marooned d b n) (hs : s.settled) :
    s.buffers[b].state = .failed ∧ s.flagSet .commitFail = true := by
  refine h.state.resolve_left fun dirty => ?_
  obtain ⟨cause, front⟩ := Queue.due_iff.mp h.due
  have single : s.deviceCommitting d = false := by
    refine List.any_eq_false.mpr fun c _ hc => ?_
    obtain ⟨committing, device⟩ := Bool.and_eq_true_iff.mp hc
    exact h.idle c (of_decide_eq_true committing) (of_decide_eq_true device)
  have meets : s.meetsButForDevice b = true := by
    refine startable_iff.mpr ⟨d, h.device, wanted_of_ownCause cause, dirty, front, h.absent, single, ?_⟩
    rw [budgetSpent, h.running]
    rfl
  obtain ⟨-, -, -, queue, -⟩ := settled_iff.mp hs
  have untaken := settleQueue_eq_none_iff.mp queue b (Queue.mem_frontBuffers h.due.hasEntry front)
  rw [meets, Bool.or_true] at untaken
  cases untaken

/-! ### Who waits on the entry (R77, R79) -/

/-- An access that waits on an entry in the queue is answered by no consequence but a refusal (R77, R79). -/
theorem settleAccess_of_entry (ha : s.port.access = some a) (hw : a.WaitsOnEntry b)
    (entry : Queue.hasEntry s.queue b = true) (h : s.settleAccess = some t) : t = s.refuse .bufferFailed := by
  unfold settleAccess at h
  rcases hw with hw | hw
  · rw [waiting_of_pending ha hw] at h
    simp only [settleHeldWrite, entry, if_true, Option.ite_none_right_eq_some] at h
    obtain ⟨-, drawn⟩ := h
    cases drawn
    rfl
  · rw [waiting_of_pending ha hw] at h
    simp only [settleWriteThrough, entry, if_true, Option.ite_none_right_eq_some] at h
    obtain ⟨-, drawn⟩ := h
    cases drawn
    rfl

/-- The access waits as it did, or is refused BUFFER_FAILED. -/
def WaitsOrRefused (a : Access) (s : State) : Prop :=
  s.port.access = some a ∨ s.port.access = some { a with status := .done (.refused .bufferFailed) }

theorem WaitsOrRefused.consequence (h : s.WaitsOrRefused a) (hw : a.WaitsOnEntry b)
    (entry : Queue.hasEntry s.queue b = true) (hdone : s.startup.phase = .done) (ht : s.consequence = some t) : t.WaitsOrRefused a := by
  rcases h with ha | ha
  · cases hs : s.settleAccess with
    | some u =>
      cases (consequence_of_access hs).symm.trans ht
      refine .inr ?_
      rw [settleAccess_of_entry ha hw entry hs]
      rcases hw with hw | hw
      all_goals rw [refuse_of_pending ha hw, afterRefusal]
    | none =>
      have unbuffered : s.waiting ≠ some .buffer := by
        rcases hw with hw | hw
        all_goals
          rw [waiting_of_pending ha hw]
          exact nofun
      have quiet : s.Quiet := ⟨hs, if_neg unbuffered, hdone⟩
      exact .inl (by rw [(quiet.commitStep ht).commitsOnly.port, ha])
  · have alone : s.LeavesAlone .commits true t := drawn_leavesAlone (consequence_drawn ht) hdone
    obtain ⟨access, -⟩ := alone.port (waiting_of_done ha rfl) nofun
    exact .inr (access.trans ha)

/-- What the end of the step makes of the entry of an ABSENT device, and of the access that waits on it. -/
theorem Marooned.conclude (h : s.Marooned d b n) (before : State) : (s.conclude before).Marooned d b n := by
  have settled : s.settle.Marooned d b n := settle_induct (P := Marooned d b n) (fun _ _ hu ht => hu.drawn ht) h
  exact settled.noteShort before

theorem Marooned.conclude_refuses (h : s.Marooned d b n) (ha : s.port.access = some a) (hw : a.WaitsOnEntry b)
    (before : State) :
    (s.conclude before).port.access = some { a with status := .done (.refused .bufferFailed) } := by
  obtain ⟨-, settled⟩ : s.settle.Marooned d b n ∧ s.settle.WaitsOrRefused a :=
    settle_consequence_induct (P := fun u => u.Marooned d b n ∧ u.WaitsOrRefused a)
      (fun u t ⟨hu, hp⟩ ht => ⟨hu.drawn (consequence_drawn ht), hp.consequence hw hu.due.hasEntry hu.done ht⟩) ⟨h, .inl ha⟩
  have ended : (s.conclude before).WaitsOrRefused a := by
    unfold State.conclude State.noteShort
    split
    all_goals exact settled
  refine ended.resolve_left fun waits => ?_
  have marooned := h.conclude before
  have hs := s.conclude_settled before
  obtain ⟨failed, -⟩ := marooned.failed hs
  obtain ⟨access, -⟩ := settled_iff.mp hs
  have isFailed : (s.conclude before).isFailed b = true := decide_eq_true failed
  unfold settleAccess at access
  rcases hw with hw | hw
  all_goals
    rw [waiting_of_pending waits hw] at access
    simp [settleHeldWrite, settleWriteThrough, marooned.due.hasEntry, isFailed] at access

/-! ### The DIRTY buffer of the device when its probe has failed -/

/-- The end of the device's commits leaves none of them COMMITTING. -/
theorem commitsEnded_idle (s : State) (d : Fin 4) (c : Fin 16) (hc : (s.commitsEnded d).buffers[c].state = .committing) :
    (s.commitsEnded d).deviceOfBuffer c ≠ some d := by
  refine foldl_finRange_forall (f := fun u c => u.endCommitOf d c)
    (P := fun c u => u.buffers[c].state = .committing → u.deviceOfBuffer c ≠ some d) (fun u c hc => ?_)
    (fun u b c hu hb => ?_) ((s.markAbsent d).endOperations d) c hc
  · unfold endCommitOf at hc ⊢
    split at hc
    · rw [endDirty_buffer] at hc
      cases hc
    · next h =>
      rw [if_neg h]
      exact fun hd => h ⟨hc, hd⟩
  · unfold endCommitOf at hb ⊢
    split at hb
    · next h =>
      rw [if_pos h]
      by_cases hbc : b = c
      · subst hbc
        rw [endDirty_buffer] at hb
        cases hb
      · have same := u.endDirty_sameBuffersBut c b hbc
        rw [deviceOfBuffer_congr (s := u) (by rw [same])]
        exact hu (same ▸ hb)
    · next h =>
      rw [if_neg h]
      exact hu hb

/-- Freeing the CLEAN buffers of a device spares all others. -/
theorem freeCleanOf_spares (s : State) (d : Fin 4) (c : Fin 16) : s.Spares d (s.freeCleanOf d c) := by
  unfold freeCleanOf
  split
  · next h =>
    have held : ¬ s.buffers[c].HoldsBytes := fun hc => by
      rcases hc with hc | hc
      all_goals cases h.1.symm.trans hc
    refine .of_one (s.freeBuffer_sameBuffersBut c) ?_ fun b hb due => ?_
    · rw [freeBuffer_buffers, if_pos rfl]
      exact ⟨fun hc => absurd hc held, nofun, nofun⟩
    · rw [freeBuffer_queue]
      split
      · exact due.removed fun hbc => held (hbc ▸ hb)
      · exact due
  · exact .of_frame ⟨rfl, rfl⟩

theorem markAbsent_samePool (s : State) (d : Fin 4) : s.SamePool (s.markAbsent d) := by
  have raised : s.SamePool (if s.devices[d].state = .absent then s else s.raise .deviceFault) := by
    split
    · exact .refl s
    · exact s.raise_samePool _
  exact raised.trans ((withdraw_samePool _ (k := .probeSelect) nofun d).trans
    ((withdraw_samePool _ (k := .poll) nofun d).trans (setDevice_samePool _ d _)))

/-- A DIRTY buffer is so with its record but for the fill flag, and the queue stands, when the device's commits have ended. -/
theorem coherent.dirty_commitsEnded (hs : s.coherent) (hb : s.buffers[b].state = .dirty) (d : Fin 4) :
    s.buffers[b].SameButFill (s.commitsEnded d).buffers[b] ∧ (s.commitsEnded d).queue = s.queue := by
  obtain ⟨buffers, queue, -⟩ := s.markAbsent_frame d
  have record : s.buffers[b].SameButFill ((s.markAbsent d).endOperations d).buffers[b] := by
    have ended := endOperations_record (s := s.markAbsent d) (b := b) (by rw [buffers, hb]; exact nofun)
      (by rw [buffers]; exact hs.known (by rw [hb]; rfl)) d
    rwa [buffers] at ended
  have ended : ((s.markAbsent d).endOperations d).queue = s.queue :=
    (((s.markAbsent_samePool d).coherent hs).endOperations_queue d).trans queue
  refine foldl_invariant (P := fun u : State => s.buffers[b].SameButFill u.buffers[b] ∧ u.queue = s.queue) ⟨record, ended⟩
    fun u c ⟨hu, hq⟩ => ?_
  unfold endCommitOf
  split
  · next h =>
    have other : (u.endDirty c).buffers[b] = u.buffers[b] := endDirty_other (by rw [hu, hb]; exact nofun) h.1
    exact ⟨by rw [other]; exact hu, by simpa using hq⟩
  · exact ⟨hu, hq⟩

theorem deviceAbsent_marooned (hs : s.coherent) (hdone : s.startup.phase = .done) (running : s.part = .running)
    (hd : s.deviceOfBuffer b = some d) (hb : s.buffers[b].state = .dirty) (due : Queue.Due s.queue b) :
    (s.deviceAbsent d).Marooned d b s.buffers[b].attempts := by
  obtain ⟨-, -, -, -, startup, part⟩ := s.markAbsent_frame d
  have alone : (s.markAbsent d).LeavesAlone .commits false (s.commitsEnded d) :=
    (endOperations_leavesAlone _ d).trans (.foldl (fun u c => u.endCommitOf_leavesAlone d c) _ _)
  obtain ⟨samePart, -⟩ := alone.supply nofun
  obtain ⟨devices, -⟩ := alone.link (.inr (.inl rfl))
  obtain ⟨record, queue⟩ := hs.dirty_commitsEnded hb d
  have before : (s.commitsEnded d).Marooned d b s.buffers[b].attempts :=
    { done := by rw [alone.phase, startup, hdone]
      running := by rw [samePart, part, running]
      absent := by
        rw [devices, markAbsent, devices_setDevice, if_pos rfl]
      idle := s.commitsEnded_idle d
      device := (deviceOfBuffer_congr (by rw [record])).trans hd
      attempts := by rw [record]
      state := .inl (by rw [record, hb])
      due := by rwa [queue] }
  rw [deviceAbsent_eq]
  exact foldl_invariant (P := Marooned d b s.buffers[b].attempts) before fun u c hu =>
    hu.spares (u.freeCleanOf_spares d c) (u.freeCleanOf_leavesAlone d c)

/-- An access that waits on an entry is held on no operation. -/
theorem deviceAbsent_port_of_entry (ha : s.port.access = some a) (hw : a.WaitsOnEntry b) :
    (s.deviceAbsent d).port = s.port := by
  obtain ⟨-, -, port, -⟩ := s.markAbsent_frame d
  have waits : (s.markAbsent d).waiting = some (.crossGeneration b) ∨ (s.markAbsent d).waiting = some (.entry b) := by
    rw [waiting_congr port]
    exact hw.imp (waiting_of_pending ha) (waiting_of_pending ha)
  have ended : ((s.markAbsent d).endOperations d).port = s.port := by
    refine (endOperations_port (fun c hc => ?_) (fun hc => ?_) d).trans port
    all_goals
      rw [hc] at waits
      rcases waits with h | h
      all_goals cases h
  rw [deviceAbsent_eq]
  refine foldl_invariant (P := fun u : State => u.port = s.port) (foldl_invariant (P := fun u : State => u.port = s.port) ended
    fun u c hu => ?_) fun u c hu => ?_
  · unfold endCommitOf
    split <;> simp [hu]
  · unfold freeCleanOf
    split <;> simp [hu]

/-! ### The two rows (R129) -/

theorem exec_probeDeadline {p : Probe} (hr : s.resetHeld = false) (hp : s.devices[d].probe = some p)
    (hl : s.onLink .probeSelect d = false) :
    exec (.probeDeadline d) s = .next (((s.advanceTo p.deadline).deviceAbsent d).conclude s) := by
  simp only [exec, execProbeDeadline, act_of_released hr, hp, hl]
  rfl

theorem probeRefused_late {p : Probe} (hp : s.devices[d].probe = some p) (late : p.deadline ≤ s.now) :
    s.probeRefused d = s.deviceAbsent d := by
  unfold probeRefused
  rw [hp]
  exact if_pos late

/-- Either row makes the device ABSENT in a state that differs from the one found in clock and link alone. -/
theorem exec_probeFails {i : Instr} {p : Probe} (hr : s.resetHeld = false) (hp : s.devices[d].probe = some p)
    (h : i = .probeDeadline d ∧ s.onLink .probeSelect d = false ∨
      i = .probeSelectRefuse ∧ ∃ l, s.runs l .probeSelect ∧ l.operation.device = d ∧ p.deadline ≤ max s.now l.endTime) :
    ∃ now link, (s.coherent → State.coherent { s with now := now, link := link }) ∧
      exec i s = .next ((State.deviceAbsent { s with now := now, link := link } d).conclude s) := by
  rcases h with ⟨rfl, hl⟩ | ⟨rfl, l, hl, hd, late⟩
  · exact ⟨_, s.link, (advanceTo_samePool s p.deadline).coherent, exec_probeDeadline hr hp hl⟩
  · subst hd
    refine ⟨_, none, fun hs => hs.freeLink hl.1 (by rw [hl.2]; exact nofun), ?_⟩
    rw [exec_probeSelectRefuse hr hl, probeRefused_late (s := s.freeLink l) hp late]
    rfl

end State

/-- Settles O33: the ends of the device's operations refuse the read held on one of them; what the Scheduler finds of its entries in
the front generation is handed over before the state is settled, and then who waits on it is refused; and no consequence takes
a buffer for a page of an ABSENT device without making it DIRTY. -/
theorem probeThatFailsMakesDeviceAbsent : Obligations.ProbeThatFailsMakesDeviceAbsent := by
  intro i d p s ⟨hr, hdone⟩ hp h
  obtain ⟨now, link, whole, step⟩ := State.exec_probeFails hr hp h
  have devices := State.deviceAbsent_devices { s with now := now, link := link } d
  have fault := State.deviceAbsent_fault (s := { s with now := now, link := link }) (d := d)
  have marooned (b : Fin 16) (hs : s.coherent) := State.deviceAbsent_marooned (b := b) (d := d) (whole hs) hdone
  have waiter {a : Access} {b : Fin 16} := State.deviceAbsent_port_of_entry (s := { s with now := now, link := link })
    (a := a) (b := b) (d := d)
  have refused {a : Access} {o : Operation} := State.deviceAbsent_refused (s := { s with now := now, link := link }) (a := a)
    (o := o) (d := d)
  have noClean := State.deviceAbsent_noCleanOf { s with now := now, link := link } d
  have done : (State.deviceAbsent { s with now := now, link := link } d).startup.phase = .done :=
    (State.deviceAbsent_phase _ d).trans hdone
  generalize State.deviceAbsent { s with now := now, link := link } d = t at *
  have alone : t.LeavesAlone .commits true (t.conclude s) := State.conclude_leavesAlone done s
  obtain ⟨-, -, -, flags⟩ := alone.configuration nofun
  have record : t.devices[d] =
      { s.devices[d] with state := .absent, counter := none, pollDue := none, timeout := none, probe := none } := by
    rw [devices, vector_set_fin, if_pos rfl]
  refine ⟨_, step, by rw [State.conclude_devices done, record], fun present => flags _ (fault present),
    noClean.conclude done (by rw [record]) s, fun b running hs hd hb cause front => ?_, fun a o ha ho hd held => ?_⟩
  · have ended := (marooned b hs running hd hb (Queue.due_iff.mpr ⟨cause, front⟩)).conclude s
    obtain ⟨failed, flag⟩ := ended.failed (t.conclude_settled s)
    exact ⟨failed, ended.attempts, flag, fun a ha hw =>
      (marooned b hs running hd hb (Queue.due_iff.mpr ⟨cause, front⟩)).conclude_refuses (by rw [waiter ha hw, ha]) hw s⟩
  · obtain ⟨access, capture, flag⟩ := (refused ha ho hd held).conclude done s
    exact ⟨access, capture, flag⟩

end Sys2Proof.Machine
end

section
/-! PROOFS. A transfer error in the third attempt: what the counted failure makes of a commit, of a stream read and of the access that
waits, and what the ends of a STUCK device's operations and the consequences of the step leave of that (R90, R94, R98, R101, R118,
R123, R141): O25. -/
namespace Sys2Proof.Machine
namespace State

variable {s t u v : State} {b : Fin 16} {d : Fin 4} {a : Access} {l : LinkOperation} {x : Stall}

/-! ### A failure is counted (R90, R94, R98, R103) -/

/-- `t` has of `b` what `s` has: tag, attempts, known offsets, bytes to be written, and the entry. -/
structure KeepsEntryOf (b : Fin 16) (s t : State) : Prop where
  tag : t.buffers[b].tag = s.buffers[b].tag
  attempts : t.buffers[b].attempts = s.buffers[b].attempts
  valid : t.buffers[b].valid = s.buffers[b].valid
  bytes : t.buffers[b].dirty ||| t.buffers[b].inFlight = s.buffers[b].dirty ||| s.buffers[b].inFlight
  queue : Queue.unmark t.queue = Queue.unmark s.queue

theorem KeepsEntryOf.trans (h : s.KeepsEntryOf b t) (h' : t.KeepsEntryOf b u) : s.KeepsEntryOf b u :=
  ⟨h'.tag.trans h.tag, h'.attempts.trans h.attempts, h'.valid.trans h.valid, h'.bytes.trans h.bytes, h'.queue.trans h.queue⟩

theorem CommitsOnly.keepsEntryOf (h : s.CommitsOnly t) (b : Fin 16) : s.KeepsEntryOf b t :=
  ⟨(h.buffers b).tag, (h.buffers b).attempts, (h.buffers b).valid, (h.buffers b).bytes, h.queue⟩

theorem KeepsEntryOf.of_sameButFill (h : s.buffers[b].SameButFill t.buffers[b]) (hq : t.queue = s.queue) :
    s.KeepsEntryOf b t := by
  refine ⟨?_, ?_, ?_, ?_, by rw [hq]⟩
  all_goals rw [h]

/-- The failure is counted, with the in-flight bytes dirty again. -/
def countFailure (s : State) (b : Fin 16) : State := s.setBuffer b s.buffers[b].counted

theorem countFailure_buffer (s : State) (b : Fin 16) : (s.countFailure b).buffers[b] = s.buffers[b].counted :=
  s.buffers_setBuffer_self b _

theorem afterFailure_of_device (hd : s.deviceOfBuffer b = some d) (retry : State → State) : s.afterFailure b retry =
    if s.buffers[b].attempts + 1 ≥ 3 then (s.countFailure b).becomeFailed b
    else if s.unreachable d then (s.countFailure b).endDirty b else retry (s.countFailure b) := by
  have device : (s.countFailure b).deviceOfBuffer b = some d :=
    (deviceOfBuffer_congr (by rw [countFailure_buffer]; rfl)).trans hd
  change (if s.buffers[b].attempts + 1 ≥ 3 then (s.countFailure b).becomeFailed b
    else match (s.countFailure b).deviceOfBuffer b with
      | none => s.countFailure b
      | some d => if (s.countFailure b).unreachable d then (s.countFailure b).endDirty b else retry (s.countFailure b)) = _
  rw [device]
  rfl

/-- What a counted failure makes of the commit of `b` on the device `d`: FAILED at the third, DIRTY where the device can no longer
be reached, and otherwise, in RUNNING, going on. -/
structure FailureCounted (b : Fin 16) (d : Fin 4) (s t : State) : Prop where
  keeps : (s.countFailure b).KeepsEntryOf b t
  failed : s.buffers[b].attempts = 2 → t.buffers[b].state = .failed ∧ t.flagSet .commitFail = true
  dirty : s.buffers[b].attempts ≠ 2 → s.unreachable d = true → t.buffers[b].state = .dirty
  retried : s.buffers[b].attempts ≠ 2 → s.unreachable d = false → s.part = .running → t.buffers[b].state = .committing

theorem afterFailure_counted {retry : State → State} (hd : s.deviceOfBuffer b = some d) (hb : s.buffers[b].state = .committing)
    (bound : s.buffers[b].attempts ≤ 2) (keeps : (s.countFailure b).KeepsEntryOf b (retry (s.countFailure b)))
    (goesOn : s.part = .running → (retry (s.countFailure b)).buffers[b].state = .committing) :
    FailureCounted b d s (s.afterFailure b retry) := by
  have entry : (s.countFailure b).buffers[b].state.hasEntry = true := by
    rw [countFailure_buffer]
    exact hasEntry_of_committing hb
  rw [afterFailure_of_device hd]
  split
  · next third =>
    have two : s.buffers[b].attempts = 2 := by omega
    exact ⟨(becomeFailed_commitsOnly entry).keepsEntryOf b, fun _ => ⟨by rw [becomeFailed_buffer], flagSet_raise _ _⟩,
      fun h => absurd two h, fun h => absurd two h⟩
  · next early =>
    have fewer : s.buffers[b].attempts ≠ 2 := by omega
    split
    · next unreachable =>
      have record := (s.countFailure b).endDirty_buffer b
      refine ⟨⟨?_, ?_, ?_, ?_, by simp⟩, fun h => absurd h fewer, fun _ _ => by rw [record]; rfl, fun _ h => ?_⟩
      · rw [record]
        rfl
      · rw [record]
        rfl
      · rw [record]
        rfl
      · rw [record]
        exact BitVec.or_zero
      · rw [unreachable] at h
        cases h
    · next reachable =>
      exact ⟨keeps, fun h => absurd h fewer, fun _ h => absurd h reachable, fun _ _ running => goesOn running⟩

/-- The retry of SEND and CHECK is the start choice (R94, R98). -/
theorem afterFailure_startChoice (hd : s.deviceOfBuffer b = some d) (hb : s.buffers[b].state = .committing)
    (bound : s.buffers[b].attempts ≤ 2) : FailureCounted b d s (s.afterFailure b fun u => u.startChoice b) := by
  have committing : (s.countFailure b).buffers[b].state = .committing := by
    rw [countFailure_buffer]
    exact hb
  refine afterFailure_counted hd hb bound ((startChoice_commitsOnly committing).keepsEntryOf b) fun running => ?_
  obtain ⟨started, -⟩ := startChoice_started committing
  refine started.resolve_right fun ⟨_, spent⟩ => ?_
  have part : ((s.countFailure b).startChoice b).part = s.part := by simp [countFailure]
  rw [budgetSpent, part, running] at spent
  cases spent

/-- The retry of FILL is a new fetch (R90). -/
theorem afterFailure_requestFetch (hd : s.deviceOfBuffer b = some d) (hb : s.buffers[b].state = .committing)
    (bound : s.buffers[b].attempts ≤ 2) : FailureCounted b d s (s.afterFailure b fun u => u.requestFetch b) := by
  have record : (s.countFailure b).buffers[b].SameButFill ((s.countFailure b).requestFetch b).buffers[b] := by
    rw [requestFetch_buffers]
    split <;> rfl
  refine afterFailure_counted hd hb bound (.of_sameButFill record (by simp)) fun _ => ?_
  rw [record, countFailure_buffer]
  exact hb

theorem FailureCounted.of_same (h : FailureCounted b d u t) (record : v.buffers[b].SameButFill u.buffers[b])
    (queue : u.queue = v.queue) (devices : u.devices = v.devices) (part : u.part = v.part) : FailureCounted b d v t := by
  have unreachable : u.unreachable d = v.unreachable d := by
    unfold State.unreachable
    rw [devices]
  obtain ⟨keeps, failed, dirty, retried⟩ := h
  have counted : (v.countFailure b).KeepsEntryOf b (u.countFailure b) := by
    refine ⟨?_, ?_, ?_, ?_, congrArg Queue.unmark queue⟩
    all_goals rw [countFailure_buffer, countFailure_buffer, record]; rfl
  rw [record] at failed dirty retried
  rw [unreachable] at dirty retried
  rw [part] at retried
  exact ⟨counted.trans keeps, failed, dirty, retried⟩

/-- The record of a buffer whose fetch has failed, before anyone hears of it (R42). -/
def unpinned (s : State) (b : Fin 16) : State := s.setBuffer b { s.buffers[b] with fill := false }

theorem unpinned_buffer (s : State) (b : Fin 16) : (s.unpinned b).buffers[b] = { s.buffers[b] with fill := false } :=
  s.buffers_setBuffer_self b _

/-- The operation is one of the commit of `b`: its pending fetch, its program or its CHECK read (R88, R91, R97). -/
def CommitsBy (s : State) (l : LinkOperation) (b : Fin 16) : Prop :=
  s.inStage b .fill = true ∧ l.hasRequester = true ∧ l.operation.kind = .pageFetch b ∨
    s.inStage b .send = true ∧ l.operation.kind = .program b ∨ s.inStage b .check = true ∧ l.operation.kind = .checkRead b

theorem CommitsBy.committing (h : s.CommitsBy l b) : s.buffers[b].state = .committing := by
  rcases h with ⟨h, -⟩ | ⟨h, -⟩ | ⟨h, -⟩
  all_goals
    obtain ⟨committing, -⟩ := inStage_iff.mp h
    exact committing

/-- With no access waiting, the failure of an operation of a commit is counted (R90, R94, R98). -/
theorem operationFailed_counted (h : s.CommitsBy l b) (hw : s.waiting = none) (hd : s.deviceOfBuffer b = some d)
    (bound : s.buffers[b].attempts ≤ 2) (known : s.buffers[b].valid ≠ 0) (x : Stall) :
    FailureCounted b d s (s.operationFailed l x) := by
  have committing := h.committing
  rcases h with ⟨stage, requested, hk⟩ | ⟨stage, hk⟩ | ⟨stage, hk⟩
  · have record := s.unpinned_buffer b
    have waits : (s.unpinned b).engineWaits b = true := by
      obtain ⟨-, stage⟩ := inStage_iff.mp stage
      rw [engineWaits_iff, record]
      exact ⟨committing, stage⟩
    have device : (s.unpinned b).deviceOfBuffer b = some d := (deviceOfBuffer_congr (by rw [record])).trans hd
    have failed : FailureCounted b d s ((s.unpinned b).fillFailed b) :=
      (afterFailure_requestFetch device (by rw [record]; exact committing) (by rw [record]; exact bound)).of_same
        (by rw [record]) rfl rfl rfl
    have valid : ((s.unpinned b).fillFailed b).buffers[b].valid ≠ 0 := by
      rw [failed.keeps.valid, countFailure_buffer]
      exact known
    have unheld : s.waiting ≠ some (.fetch b) := by
      rw [hw]
      exact nofun
    have ended : s.fetchFailed b x = ((s.unpinned b).fillFailed b).freeIfUnknown b := by
      rw [fetchFailed, if_neg unheld]
      exact congrArg (fun u : State => u.freeIfUnknown b) (if_pos waits)
    rw [operationFailed, hk]
    dsimp only
    rw [if_pos requested, ended, freeIfUnknown, if_neg valid]
    exact failed
  · have record : (s.withdrawCommit b).buffers[b] = s.buffers[b] := by simp
    rw [operationFailed, hk]
    dsimp only
    rw [if_pos stage, sendFailed]
    refine (afterFailure_startChoice ?_ (by rw [record, committing]) (by rw [record]; exact bound)).of_same (by rw [record])
      (by simp) (by simp) (by simp)
    exact (deviceOfBuffer_congr (by rw [record])).trans hd
  · rw [operationFailed, hk]
    dsimp only
    rw [if_pos stage]
    exact afterFailure_startChoice hd committing bound

/-! ### A read that is refused, and the stream (R47, R141) -/

theorem operationFailed_fetch_refused (hk : l.operation.kind = .pageFetch b) (hr : l.hasRequester = true)
    (ha : s.port.access = some a) (hw : a.status = .pending (.fetch b)) (x : Stall) :
    Refused a x.cause s.port.fault (s.operationFailed l x) := by
  have waits : s.waiting = some (.fetch b) := waiting_of_pending ha hw
  have refused : Refused a x.cause s.port.fault ((s.unpinned b).refuse x.cause) :=
    refuse_refused (s := s.unpinned b) ha hw x.cause
  rw [operationFailed, hk]
  dsimp only
  rw [if_pos hr, fetchFailed, if_pos waits]
  refine (refused.mono (keeps := true) ?_).mono (freeIfUnknown_leavesAlone _ b)
  split
  · exact fillFailed_leavesAlone _ b
  · exact .refl _ _ _

theorem planRefill_of_stalled (h : s.stream.context = none ∨ s.stream.stall ≠ none) : s.planRefill = s := by
  unfold planRefill
  rcases h with h | h
  · rw [h]
  · split
    · rfl
    · exact if_neg fun ⟨_, unstalled, _⟩ => h unstalled

/-- With no access waiting, a burst that fails leaves the cause as stall, unless it is spoiled; where the Window is left stalled
or IDLE, nothing else of the stream changes (R141). -/
theorem burstFailed_stream {u : Burst} (hw : s.waiting = none) (hu : s.stream.burst = some u)
    (h : u.spoiled = false ∨ s.stream.context = none) (x : Stall) : (s.burstFailed x).stream =
      { s.stream with burst := none, stall := if u.spoiled then s.stream.stall else some x } := by
  have unheld : s.waiting ≠ some .streamByte := by
    rw [hw]
    exact nofun
  unfold burstFailed
  rw [hu]
  dsimp only
  rw [if_neg unheld, planRefill_of_stalled]
  · rfl
  · refine h.symm.imp id fun whole => ?_
    simp [setStream, whole]

/-! ### The end of the step -/

/-- With no access waiting, a DIRTY buffer of a device that is neither READY nor ABSENT ends the step as it is: its entry is not
taken (R71, R72). -/
theorem conclude_unreachable (hw : s.waiting = none) (hdone : s.startup.phase = .done) (hb : s.buffers[b].state = .dirty)
    (hd : s.deviceOfBuffer b = some d) (stuck : s.devices[d].state = .stuck) (before : State) :
    (s.conclude before).buffers[b] = s.buffers[b] := by
  refine (conclude_commits_induct (P := fun t => s.CommitsOnly t ∧ t.buffers[b] = s.buffers[b]) (fun u ⟨hc, _⟩ => ?_)
    (fun u t ⟨hc, hu⟩ ht => ⟨hc.trans ht.commitsOnly, ?_⟩) (fun u ⟨hc, hu⟩ => ⟨hc.trans (u.raise_commitsOnly _), hu⟩)
    ⟨.refl s, rfl⟩ before).2
  · exact quiet_of_idle ((waiting_congr hc.port).trans hw) (by rw [hc.startup, hdone])
  · have untaken {y : DeviceState} (hy : y ≠ .stuck) (h : u.startable y b = true) : False := by
      obtain ⟨e, he, -, -, -, state, -⟩ := startable_iff.mp h
      have same : u.deviceOfBuffer b = some d := (deviceOfBuffer_congr (by rw [hu])).trans hd
      cases he.symm.trans same
      rw [hc.devices, stuck] at state
      exact hy state.symm
    cases ht with
    | flushed => exact hu
    | stopped c _ h =>
      refine (u.stopCommit_sameBuffersBut c b fun hbc => ?_).trans hu
      have committing := (engineWaits_iff.mp h).1
      rw [← hbc, hu, hb] at committing
      cases committing
    | started c h => exact (u.startCommit_sameBuffersBut c b fun hbc => untaken (y := .ready) nofun (hbc ▸ h)).trans hu
    | handedOver c h =>
      exact (u.becomeFailed_sameBuffersBut c b fun hbc => untaken (y := .absent) nofun (hbc ▸ h)).trans hu

/-- In RUNNING, with no access waiting, a commit ends the step as it is. -/
theorem coherent.conclude_committing (hs : s.coherent) (hw : s.waiting = none) (hdone : s.startup.phase = .done)
    (running : s.part = .running) (hb : s.buffers[b].state = .committing) (before : State) :
    (s.conclude before).buffers[b] = s.buffers[b] := by
  obtain ⟨-, records, -⟩ := id hs
  obtain ⟨-, tagged, -⟩ := (PageBuffer.fits_committing hb).mp (records b).2
  obtain ⟨g, hg⟩ := Option.ne_none_iff_exists'.mp tagged
  have way : s.UnderWay b g :=
    { idle := hw
      done := hdone
      committing := hb
      tag := hg
      alone := fun c hc committing => by
        have other := (hs.but b).places.alone hb c hc committing
        rw [deviceOfBuffer.eq_def s b, hg] at other
        exact other
      unstopped := .inl running }
  exact (way.conclude before).record

/-- `t` comes from `s` by nothing, or by the ends of a device's operations. -/
structure EndsOnly (s t : State) : Prop where
  alone : s.LeavesAlone .commits false t
  record : ∀ b : Fin 16, s.buffers[b].state ≠ .committing → s.buffers[b].valid ≠ 0 → s.buffers[b].SameButFill t.buffers[b]
  queue : s.coherent → t.queue = s.queue
  stream : s.stream.burst = none → t.stream = s.stream
  now : t.now = s.now

theorem EndsOnly.refl (s : State) : s.EndsOnly s := ⟨.refl _ _ s, fun _ _ _ => rfl, fun _ => rfl, fun _ => rfl, rfl⟩

theorem endOperations_endsOnly (s : State) (d : Fin 4) : s.EndsOnly (s.endOperations d) :=
  ⟨s.endOperations_leavesAlone d, fun _ hb hv => endOperations_record hb hv d, fun hs => hs.endOperations_queue d,
    fun h => endOperations_stream h d, by simp⟩

/-! ### The last failure (R118) -/

/-- `r` is the state `v`, with an idle link, after the operation has failed with the cause `x`: with DEVICE on a STUCK device, whose
operations are ended, or with FETCH_FAILED on a READY one. -/
structure LastFailure (l : LinkOperation) (x : Stall) (v r : State) : Prop where
  idle : v.link = none
  ends : (v.operationFailed l x).EndsOnly r
  device : x = .device ∧ v.devices[l.operation.device].state = .stuck ∨
    x = .fetchFailed ∧ v.devices[l.operation.device].state = .ready ∧ r = v.operationFailed l x

/-- What the failure leaves alone. -/
theorem LastFailure.alone (h : LastFailure l x v u) : v.LeavesAlone .commits false u :=
  (operationFailed_leavesAlone v l x).trans h.ends.alone

theorem LastFailure.refused {f : FaultRecord} (h : LastFailure l x v u) (hdone : v.startup.phase = .done)
    (refused : Refused a x.cause f (v.operationFailed l x)) (before : State) : Refused a x.cause f (u.conclude before) :=
  (refused.mono h.ends.alone).conclude (h.alone.phase.trans hdone) before

/-- With no access waiting, the stream is at the end of the step what the failed burst has made of it (R141). -/
theorem LastFailure.stream {y : Burst} (h : LastFailure l x v u) (hdone : v.startup.phase = .done) (hw : v.waiting = none)
    (hk : l.operation.kind = .streamRead) (hy : v.stream.burst = some y) (hs : y.spoiled = false ∨ v.stream.context = none)
    (before : State) : (u.conclude before).stream =
      { v.stream with burst := none, stall := if y.spoiled then v.stream.stall else some x } := by
  have failed : (v.operationFailed l x).stream =
      { v.stream with burst := none, stall := if y.spoiled then v.stream.stall else some x } := by
    rw [operationFailed, hk]
    exact burstFailed_stream hw hy hs x
  have ended := h.ends.stream (by rw [failed])
  have rest : u.AtRest := ⟨h.alone.phase.trans hdone, .inl (h.alone.waiting hw nofun)⟩
  rw [(rest.conclude before).stream, ended, failed]

/-- The ends of the operations of a STUCK device leave of the failed commit its state and what its entry carries. -/
theorem LastFailure.keepsEntryOf (h : LastFailure l x v u) (hs : (v.operationFailed l x).coherent)
    (counted : FailureCounted b l.operation.device v (v.operationFailed l x)) (known : v.buffers[b].valid ≠ 0) :
    (v.operationFailed l x).KeepsEntryOf b u ∧ u.buffers[b].state = (v.operationFailed l x).buffers[b].state := by
  rcases h.device with ⟨-, stuck⟩ | ⟨-, -, same⟩
  · have uncommitting : (v.operationFailed l x).buffers[b].state ≠ .committing := by
      by_cases two : v.buffers[b].attempts = 2
      · rw [(counted.failed two).1]
        exact nofun
      · have unreachable : v.unreachable l.operation.device = true := by
          rw [unreachable, stuck]
          rfl
        rw [counted.dirty two unreachable]
        exact nofun
    have valid : (v.operationFailed l x).buffers[b].valid ≠ 0 := by
      rw [counted.keeps.valid, countFailure_buffer]
      exact known
    have record := h.ends.record b uncommitting valid
    exact ⟨.of_sameButFill record (h.ends.queue hs), by rw [record]⟩
  · subst same
    exact ⟨⟨rfl, rfl, rfl, rfl, rfl⟩, rfl⟩

/-- With no access waiting, what the end of the step leaves of the commit whose operation has failed (R90, R94, R98, R101). -/
theorem LastFailure.commit (h : LastFailure l x v u) (whole : State.coherent { v with link := some l })
    (hdone : v.startup.phase = .done) (hw : v.waiting = none) (hc : v.CommitsBy l b)
    (hd : v.deviceOfBuffer b = some l.operation.device) (before : State) :
    (v.countFailure b).KeepsEntryOf b (u.conclude before) ∧
    (v.buffers[b].attempts = 2 →
      (u.conclude before).buffers[b].state = .failed ∧ (u.conclude before).flagSet .commitFail = true) ∧
    (v.buffers[b].attempts ≠ 2 → x = .device → (u.conclude before).buffers[b].state = .dirty) ∧
    (v.buffers[b].attempts ≠ 2 → x = .fetchFailed → v.part = .running →
      (u.conclude before).buffers[b].state = .committing) := by
  have committing := hc.committing
  have bound : v.buffers[b].attempts ≤ 2 := by
    obtain ⟨-, records, -⟩ := id whole
    obtain ⟨-, -, bound, -⟩ := (PageBuffer.fits_committing committing).mp (records b).2
    exact bound
  have known : v.buffers[b].valid ≠ 0 := whole.known (b := b) (hasEntry_of_committing committing)
  have counted := operationFailed_counted hc hw hd bound known x
  have after := whole.operationFailed h.idle x
  obtain ⟨kept, state⟩ := h.keepsEntryOf after counted known
  have done : u.startup.phase = .done := h.alone.phase.trans hdone
  have idle : u.waiting = none := h.alone.waiting hw nofun
  have commits := AtRest.conclude ⟨done, .inl idle⟩ before
  refine ⟨(counted.keeps.trans kept).trans (commits.keepsEntryOf b), fun two => ?_, fun fewer hx => ?_, fun fewer hx running => ?_⟩
  · obtain ⟨failed, flag⟩ := counted.failed two
    have failed : u.buffers[b].state = .failed := state.trans failed
    obtain ⟨-, -, -, flags⟩ := h.ends.alone.configuration nofun
    rw [conclude_unchanged (b := b) idle done (by rw [failed]; exact nofun) (by rw [engineWaits, failed]; rfl) before]
    exact ⟨failed, commits.flags _ (flags _ flag)⟩
  · rcases h.device with ⟨-, stuck⟩ | ⟨other, -⟩
    · have unreachable : v.unreachable l.operation.device = true := by
        rw [unreachable, stuck]
        rfl
      have dirty : u.buffers[b].state = .dirty := state.trans (counted.dirty fewer unreachable)
      obtain ⟨devices, -⟩ := h.alone.link (.inr (.inl rfl))
      have tag : u.buffers[b].tag = v.buffers[b].tag := by
        rw [kept.tag, counted.keeps.tag, countFailure_buffer]
        rfl
      rw [conclude_unreachable idle done dirty ((deviceOfBuffer_congr tag).trans hd) (by rw [devices, stuck]) before, dirty]
    · cases hx.symm.trans other
  · rcases h.device with ⟨other, -⟩ | ⟨-, ready, same⟩
    · cases hx.symm.trans other
    · have reachable : v.unreachable l.operation.device = false := by
        rw [unreachable, ready]
        rfl
      have goesOn : u.buffers[b].state = .committing := state.trans (counted.retried fewer reachable running)
      obtain ⟨part, -⟩ := h.alone.supply nofun
      have ended : u.coherent := same ▸ after
      rw [ended.conclude_committing idle done (part.trans running) goesOn before, goesOn]

/-! ### The third broken attempt (R118) -/

/-- The state in which an attempt has broken: the clock at the broken byte's end, the counter UNKNOWN, the link as it was. -/
def attemptBroken (s : State) (l : LinkOperation) (i : Nat) : State :=
  (s.advanceTo (l.attemptStart + brokenPeriods l.form i * 16)).setDevice l.operation.device
    { s.devices[l.operation.device] with counter := none }

theorem attemptBroken_samePool (s : State) (l : LinkOperation) (i : Nat) : s.SamePool (s.attemptBroken l i) :=
  (s.advanceTo_samePool _).trans (setDevice_samePool _ _ _)

/-- `v` has, with the link idle, what `s` has in the broken attempt, but for the record of the operation's device and a flag. -/
structure ThirdBroken (i : Nat) (l : LinkOperation) (s v : State) : Prop where
  fields : v.port = s.port ∧ v.buffers = s.buffers ∧ v.queue = s.queue ∧ v.stream = s.stream ∧ v.part = s.part ∧
    v.startup = s.startup
  now : v.now = max s.now (l.attemptStart + brokenPeriods l.form i * 16)
  whole : s.coherent → State.coherent { v with link := some l }

theorem transferBroken_third {i : Nat} (h3 : l.attempts = 3) : s.transferBroken l i =
    (s.attemptBroken l i).lastAttemptFailed l (if i = 0 then l.selectErrors + 1 else l.selectErrors) :=
  if_neg (by rw [h3]; decide)

/-- The broken attempt with the link idle. -/
def idleBroken (s : State) (l : LinkOperation) (i : Nat) : State := { s.attemptBroken l i with link := none }

theorem idleBroken_device (s : State) (l : LinkOperation) (i : Nat) :
    (s.idleBroken l i).devices[l.operation.device] = { s.devices[l.operation.device] with counter := none } :=
  (devices_setDevice _ _ _ _).trans (if_pos rfl)

/-- The broken attempt's link is the one found. -/
theorem idleBroken_whole (hl : s.link = some l) (i : Nat) (hs : s.coherent) :
    State.coherent { s.idleBroken l i with link := some l } := by
  have same : { s.idleBroken l i with link := some l } = s.attemptBroken l i := by
    rw [← hl]
    rfl
  rw [same]
  exact (s.attemptBroken_samePool l i).coherent hs

/-- All three attempts have broken at the select byte: the READY device is STUCK, and the cause is DEVICE. -/
theorem transferBroken_stuck {i : Nat} (hl : s.link = some l) (h3 : l.attempts = 3)
    (hd : s.devices[l.operation.device].state = .ready) (hi : i = 0) (h2 : l.selectErrors = 2) :
    ∃ v, ThirdBroken i l s v ∧ LastFailure l .device v (s.transferBroken l i) ∧ v.flagSet .deviceFault = true ∧
      v.devices[l.operation.device] = { s.devices[l.operation.device] with
        state := .stuck, counter := none, timeout := none, pollDue := some (v.now + 160000) } := by
  have present : (s.attemptBroken l i).devices[l.operation.device].state ≠ .absent := by
    rw [show (s.attemptBroken l i).devices[l.operation.device] = _ from s.idleBroken_device l i, hd]
    exact nofun
  have broken : s.transferBroken l i = (((s.idleBroken l i).deviceStuck l.operation.device).operationFailed l
      .device).endOperations l.operation.device := by
    rw [transferBroken_third h3, if_pos hi, h2]
    unfold lastAttemptFailed
    dsimp only
    rw [if_pos (show 2 + 1 = Config.transferAttempts from rfl), if_neg present]
    rfl
  have device : ((s.idleBroken l i).deviceStuck l.operation.device).devices[l.operation.device] =
      { s.devices[l.operation.device] with
        state := .stuck, counter := none, timeout := none, pollDue := some ((s.idleBroken l i).now + 160000) } := by
    refine ((devices_setDevice _ _ _ _).trans (if_pos rfl)).trans ?_
    rw [idleBroken_device]
    rfl
  refine ⟨(s.idleBroken l i).deviceStuck l.operation.device, ⟨⟨rfl, rfl, rfl, rfl, rfl, rfl⟩, rfl, fun hs => ?_⟩,
    ⟨rfl, broken ▸ endOperations_endsOnly _ _, .inl ⟨rfl, by rw [device]⟩⟩, flagSet_raise _ _, device⟩
  exact (deviceStuck_samePool { s.idleBroken l i with link := some l } l.operation.device).coherent (idleBroken_whole hl i hs)

/-- Otherwise the device keeps its state, and the cause is FETCH_FAILED. -/
theorem transferBroken_fetchFailed {i : Nat} (hl : s.link = some l) (h3 : l.attempts = 3)
    (hd : s.devices[l.operation.device].state = .ready) (hi : i ≠ 0 ∨ l.selectErrors < 2) (h2 : l.selectErrors ≤ 2) :
    ∃ v, ThirdBroken i l s v ∧ LastFailure l .fetchFailed v (s.transferBroken l i) ∧
      v.devices[l.operation.device] = { s.devices[l.operation.device] with counter := none } := by
  have fewer : (if i = 0 then l.selectErrors + 1 else l.selectErrors) ≠ Config.transferAttempts := by
    rw [Config.transferAttempts]
    split <;> omega
  have broken : s.transferBroken l i = (s.idleBroken l i).operationFailed l .fetchFailed := by
    rw [transferBroken_third h3]
    unfold lastAttemptFailed
    dsimp only
    rw [if_neg fewer]
    rfl
  refine ⟨s.idleBroken l i, ⟨⟨rfl, rfl, rfl, rfl, rfl, rfl⟩, rfl, idleBroken_whole hl i⟩,
    ⟨rfl, broken ▸ .refl _, .inr ⟨rfl, ?_, broken⟩⟩, s.idleBroken_device l i⟩
  rw [idleBroken_device, hd]

end State

/-- Settles O25: the failed operation is reported on an idle link: the counted failure is FAILED, DIRTY on the STUCK device, or
retried, which neither the ends of that device's operations nor the consequences of the step take back; the refused access and the
failed burst are left as they are. -/
theorem thirdTransferErrorFailsTheOperation : Obligations.ThirdTransferErrorFailsTheOperation := by
  intro i l s ⟨hr, hdone⟩ hl poll select hi h3 hsel hd
  have found : ∃ x v, State.ThirdBroken i l s v ∧ State.LastFailure l x v (s.transferBroken l i) ∧
      (i = 0 ∧ l.selectErrors = 2 ∧ x = .device ∧ v.flagSet .deviceFault = true ∧
          v.devices[l.operation.device] = { s.devices[l.operation.device] with
            state := .stuck, counter := none, timeout := none, pollDue := some (v.now + 160000) } ∨
        (i ≠ 0 ∨ l.selectErrors < 2) ∧ x = .fetchFailed ∧
          v.devices[l.operation.device] = { s.devices[l.operation.device] with counter := none }) := by
    by_cases h : i = 0 ∧ l.selectErrors = 2
    · obtain ⟨h0, h2⟩ := h
      obtain ⟨v, broken, last, flag, device⟩ := State.transferBroken_stuck hl h3 hd h0 h2
      exact ⟨_, v, broken, last, .inl ⟨h0, h2, rfl, flag, device⟩⟩
    · have other : i ≠ 0 ∨ l.selectErrors < 2 := by omega
      obtain ⟨v, broken, last, device⟩ := State.transferBroken_fetchFailed hl h3 hd other hsel
      exact ⟨_, v, broken, last, .inr ⟨other, rfl, device⟩⟩
  obtain ⟨x, v, ⟨fields, now, whole⟩, last, device⟩ := found
  obtain ⟨port, buffers, queue, stream, part, startup⟩ := fields
  have cause : (if i = 0 ∧ l.selectErrors = 2 then Cause.device else .fetchFailed) = x.cause := by
    rcases device with ⟨h0, h2, rfl, -⟩ | ⟨other, rfl, -⟩
    · exact if_pos ⟨h0, h2⟩
    · exact if_neg (by omega)
  have stall : (if i = 0 ∧ l.selectErrors = 2 then Stall.device else .fetchFailed) = x := by
    rcases device with ⟨h0, h2, rfl, -⟩ | ⟨other, rfl, -⟩
    · exact if_pos ⟨h0, h2⟩
    · exact if_neg (by omega)
  have step := State.exec_transferError hr hl poll select hi
  generalize s.transferBroken l i = u at last step
  have begun : v.startup.phase = .done := by rw [startup, hdone]
  have done : u.startup.phase = .done := last.alone.phase.trans begun
  have idle (hw : s.waiting = none) : v.waiting = none := (State.waiting_congr port).trans hw
  obtain ⟨devices, link⟩ := last.alone.link (.inr (.inl rfl))
  obtain ⟨-, -, -, flags⟩ := last.alone.configuration nofun
  have ended : u.LeavesAlone .commits true (u.conclude s) := State.conclude_leavesAlone done s
  obtain ⟨-, -, -, flags'⟩ := ended.configuration nofun
  have clock : (u.conclude s).now = v.now := by
    rw [State.conclude_now, last.ends.now]
    simp
  simp only [cause, stall]
  refine ⟨u.conclude s, step, ?_, clock.trans now, fun h0 h2 => ?_, fun other => ?_, fun b a hk requested ha hw => ?_,
    fun b hk hw hs hb hc => ?_, fun y hk hy => ⟨fun whole hw => ?_, fun spoiled lost hw => ?_, fun a ha hw => ?_⟩⟩
  · refine State.conclude_idle done ?_ s
    rw [last.idle] at link
    exact Option.map_eq_none_iff.mp link
  · rcases device with ⟨-, -, -, flag, record⟩ | ⟨other, -⟩
    · exact ⟨flags' _ (flags _ flag), by rw [State.conclude_devices done, devices, record, clock]⟩
    · omega
  · rcases device with ⟨h0, h2, -⟩ | ⟨-, -, record⟩
    · omega
    · rw [State.conclude_devices done, devices, record]
  · have refused := State.operationFailed_fetch_refused hk requested (by rw [port, ha]) hw x
    exact (last.refused begun refused s).access
  · have commits : v.CommitsBy l b := by
      unfold State.CommitsBy State.inStage
      rw [buffers]
      exact hc
    have counted : (v.countFailure b).buffers[b] = s.buffers[b].counted := by rw [State.countFailure_buffer, buffers]
    have entry : Queue.hasEntry s.queue b = true := by
      rw [hs.hasEntry, ← buffers]
      exact State.hasEntry_of_committing commits.committing
    obtain ⟨keeps, failed, dirty, goesOn⟩ := last.commit (whole hs) begun (idle hw) commits
      ((State.deviceOfBuffer_congr (by rw [buffers])).trans hb) s
    rw [buffers] at failed dirty goesOn
    refine ⟨by rw [keeps.attempts, counted]; rfl, ?_, ?_, failed, fun fewer h0 h2 => dirty fewer ?_,
      fun fewer other running => goesOn fewer ?_ (part.trans running)⟩
    · rw [Queue.hasEntry_congr keeps.queue]
      exact (congrArg (Queue.hasEntry · b) queue).trans entry
    · rw [keeps.bytes, counted]
      exact BitVec.or_zero
    · rcases device with ⟨-, -, hx, -⟩ | ⟨other, -⟩
      · exact hx
      · omega
    · rcases device with ⟨h0, h2, -⟩ | ⟨-, hx, -⟩
      · omega
      · exact hx
  · rw [last.stream begun (idle hw) hk (by rw [stream, hy]) (.inl whole) s, stream, whole]
    rfl
  · rw [last.stream begun (idle hw) hk (by rw [stream, hy]) (.inr (by rw [stream, lost])) s, stream, spoiled]
    rfl
  · have failed : State.Refused a x.cause v.port.fault (v.operationFailed l x) := by
      rw [State.operationFailed, hk]
      exact State.burstFailed_refused (by rw [port, ha]) hw (by rw [stream, hy]) x
    exact (last.refused begun failed s).access

end Sys2Proof.Machine
end
